-- ==== Sys2Proof/Word.lean ====
section
/-! DEFINITION. The machine's data types: words, bytes, colours, and arrays of a fixed length.

Arithmetic on operands is done on mathematical integers (`00_scope.md` rule R6), so this file holds types only
and, for fixed-length arrays, the five operations everything else is written with. -/

namespace Sys2Proof

/-- A host register and a command word: XLEN = 32 bits (`00_scope.md` rule R5). -/
abbrev Word := BitVec 32

/-- A channel, a gamma-table entry, a device register id or a transport payload byte. -/
abbrev Byte := BitVec 8

/-- A packed colour, red in bits 23:16, green in 15:8, blue in 7:0 (`40_colorcodec.md` rule R100). -/
abbrev Color := BitVec 24

/-- An array of exactly `n` elements: a list together with the fact that its length is `n`.
Two equal arrays are equal data, and the kernel compares and reads them quickly. -/
structure Table (α : Type) (n : Nat) where
  toList : List α
  length_eq : toList.length = n
  deriving DecidableEq, Repr

namespace Table

variable {α β : Type} {n : Nat}

/-- Element `i`. -/
def get (t : Table α n) (i : Fin n) : α :=
  t.toList[i.val]'(t.length_eq.symm ▸ i.isLt)

/-- The array with element `i` replaced by `a`. -/
def set (t : Table α n) (i : Fin n) (a : α) : Table α n :=
  ⟨t.toList.set i.val a, by simp [t.length_eq]⟩

/-- The array whose element `i` is `f i`. -/
def tabulate (f : Fin n → α) : Table α n :=
  ⟨List.ofFn f, by simp⟩

/-- The array with `f` applied to each element. -/
def map (f : α → β) (t : Table α n) : Table β n :=
  ⟨t.toList.map f, by simp [t.length_eq]⟩

/-- The array with every element equal to `a`. -/
def replicate (n : Nat) (a : α) : Table α n :=
  ⟨List.replicate n a, by simp⟩

end Table

end Sys2Proof
end

