-- ==== Sys2Proof/Syntax.lean ====
section
/-! DEFINITION. The eleven commands of DSW-CS v1, the ways a command word can be illegal, and the names of the
eight host registers. -/

namespace Sys2Proof

/-- A command (`30_encoding.md` rule R82): one constructor per row of the opcode map. All operands but the
named-colour index come from the operand registers. -/
inductive Instr where
  /-- PACKRGB, opcode 0x1 (`40_colorcodec.md` rule R101). -/
  | packrgb
  /-- UNPACKR, opcode 0x2 (rule R102). -/
  | unpackr
  /-- UNPACKG, opcode 0x3 (rule R103). -/
  | unpackg
  /-- UNPACKB, opcode 0x4 (rule R104). -/
  | unpackb
  /-- HSL, opcode 0x5 (rule R105). -/
  | hsl
  /-- NAMED, opcode 0x6, with its immediate `idx` (rules R83, R110). -/
  | named (idx : BitVec 4)
  /-- PSET, opcode 0x7 (`41_pixelgrid.md` rule R130). -/
  | pset
  /-- PGET, opcode 0x8 (rule R131). -/
  | pget
  /-- DIMS, opcode 0x9 (rule R132). -/
  | dims
  /-- GAMMA, opcode 0xA (`42_gamma.md` rule R140). -/
  | gamma
  /-- SHOW, opcode 0xB (`43_display.md` rule R150); `show` itself is a word of Lean's. -/
  | showFrame
  deriving DecidableEq, Repr

/-- Why a command word is illegal (`30_encoding.md` rule R85). The hardware reports them all alike. -/
inductive DecodeError where
  /-- Bits 31:8 are not all zero. -/
  | nonzeroHighBits
  /-- NAMED with an index of 10 to 15. -/
  | namedIndexTooLarge
  /-- A non-zero index in a command other than NAMED. -/
  | strayIndex
  /-- Opcode 0x0 or 0xC to 0xF. -/
  | reservedOpcode
  deriving DecidableEq, Repr

/-- The eight host registers (`20_memory.md` rule R51). -/
inductive HostReg where
  | a0 | a1 | a2 | cmd | r0 | r1 | status | reserved
  deriving DecidableEq, Repr

end Sys2Proof
end

