-- ==== Sys2Proof/WellFormed.lean ====
section
/-! DEFINITION. Which instruction terms are commands of the machine. -/

namespace Sys2Proof

/-- A command term is well formed when a legal command word encodes it: the index of NAMED is at most 9
(`30_encoding.md` rules R82, R85); the other commands have no field to check. -/
def Instr.wf : Instr → Bool
  | .packrgb => true
  | .unpackr => true
  | .unpackg => true
  | .unpackb => true
  | .hsl => true
  | .named idx => decide (idx.toNat ≤ 9)
  | .pset => true
  | .pget => true
  | .dims => true
  | .gamma => true
  | .showFrame => true

end Sys2Proof
end

