-- ==== Sys2Proof/Decode.lean ====
section
/-! DEFINITION. Format C: from a command word to a command, and back (`30_encoding.md` rules R80 to R88). -/

namespace Sys2Proof

/-- Field opc, bits 3:0 (rule R81). -/
def fieldOpc (w : Word) : BitVec 4 := w.extractLsb' 0 4

/-- Field idx, bits 7:4 (rule R81). -/
def fieldIdx (w : Word) : BitVec 4 := w.extractLsb' 4 4

/-- Field zero, bits 31:8 (rule R81). -/
def fieldZero (w : Word) : BitVec 24 := w.extractLsb' 8 24

/-- The last case distinction of rule R88: the opcode of a command other than NAMED. -/
def decodeOpcode (opc : BitVec 4) : Except DecodeError Instr :=
  match opc.toNat with
  | 0x1 => .ok .packrgb
  | 0x2 => .ok .unpackr
  | 0x3 => .ok .unpackg
  | 0x4 => .ok .unpackb
  | 0x5 => .ok .hsl
  | 0x7 => .ok .pset
  | 0x8 => .ok .pget
  | 0x9 => .ok .dims
  | 0xA => .ok .gamma
  | 0xB => .ok .showFrame
  | _ => .error .reservedOpcode

/-- `decode(w)` of rule R88, total on all 32-bit words; an illegal word is rejected with its reason. -/
def decode (w : Word) : Except DecodeError Instr :=
  if fieldZero w ≠ 0 then .error .nonzeroHighBits
  else if fieldOpc w = 0x6 then
    if (fieldIdx w).toNat ≤ 9 then .ok (.named (fieldIdx w)) else .error .namedIndexTooLarge
  else if fieldIdx w ≠ 0 then .error .strayIndex
  else decodeOpcode (fieldOpc w)

/-- The opcode column of rule R82. -/
def Instr.opcode : Instr → BitVec 4
  | .packrgb => 0x1
  | .unpackr => 0x2
  | .unpackg => 0x3
  | .unpackb => 0x4
  | .hsl => 0x5
  | .named _ => 0x6
  | .pset => 0x7
  | .pget => 0x8
  | .dims => 0x9
  | .gamma => 0xA
  | .showFrame => 0xB

/-- The idx field of a command: NAMED's index, 0 in every other command (rule R81). -/
def Instr.index : Instr → BitVec 4
  | .packrgb => 0
  | .unpackr => 0
  | .unpackg => 0
  | .unpackb => 0
  | .hsl => 0
  | .named idx => idx
  | .pset => 0
  | .pget => 0
  | .dims => 0
  | .gamma => 0
  | .showFrame => 0

/-- The command word of a command: zero, idx, opc from the most significant bit down (rules R81, R88). -/
def encode (i : Instr) : Word := (0#24 ++ i.index) ++ i.opcode

/-- A word as the opcode table numbers its bits: bit 0 least significant. The host moves a command word whole, so
there is no byte order to apply (`20_memory.md` rule R56). -/
def tableWord (nbits w : Nat) : Word := BitVec.ofNat 32 (w % 2 ^ nbits)

/-- The decoder's answer on an opcode-table word; a command is one 32-bit word (rule R80), so nothing longer
decodes. -/
def decodeTableWord (nbits w : Nat) : Option Instr :=
  if nbits ≤ 32 then
    match decode (tableWord nbits w) with
    | .ok i => some i
    | .error _ => none
  else none

end Sys2Proof
end

