-- ==== Sys2Proof/Config.lean ====
section
/-! DEFINITION. What is fixed for this machine (`00_scope.md` rule R5) and what the spec leaves open.

The fixed parameters are plain numbers. An open parameter is an opaque constant WITHOUT a body: nothing in Lean
can evaluate it, so a proof can use its stated constraints and nothing else. `Params` collects the open parameters;
the state carries one `Params` value that no step changes (assumption 1), so that a statement over all states holds
for every configuration, and a test can put a concrete one in. -/

namespace Sys2Proof

namespace Config

/-- COLS, grid columns (rule R5). -/
abbrev cols : Nat := 12

/-- ROWS, grid rows (rule R5). -/
abbrev rows : Nat := 6

/-- NCELL = COLS × ROWS (rule R5). -/
abbrev nCell : Nat := 72

/-- FBLEN = COLS × ROWS × CH with CH = 3 bytes per cell (rule R5). -/
abbrev fbLen : Nat := 216

/-- AF_RESET, the active-frame bit after reset (rule R5). -/
abbrev afReset : BitVec 1 := 0

/-- Free values from which the open gamma table is made (`42_gamma.md` rule R141 leaves the contents open). -/
opaque gammaDraw : Nat → Byte

/-- The open named-colour table (`40_colorcodec.md` rule R109: any ten colours). -/
opaque namedDraw : Nat → Color

/-- DEV_ADDR, open (rule R5). -/
opaque devAddr : Byte

/-- REG_BANKSEL, open (rule R5). -/
opaque regBankSel : Byte

/-- REG_COLOR, open (rule R5). -/
opaque regColor : Byte

/-- REG_FRAMESEL, open (rule R5). -/
opaque regFrameSel : Byte

/-- BANK_CONFIG less two: BANK_CONFIG is open but neither 0 nor 1 (rule R5), and this is one of the 254 bytes left. -/
opaque bankConfigDraw : Fin 254

/-- Contents of the scratch buffers after a reset, which the spec leaves unspecified (`10_state.md` rule R35,
`93_implementation_defined.md` U8): `scratchDraw d i` is byte `i` of draw number `d`. -/
opaque scratchDraw : Nat → Nat → Byte

/-- Entry `i` of the open gamma table: the greatest draw up to `i`, and 0 at index 0. Every table that meets
rule R141 is one of these (take the table itself as the draws), and every one of these meets rule R141. -/
def gammaEntry : Nat → Byte
  | 0 => 0
  | i + 1 => if gammaEntry i ≤ gammaDraw (i + 1) then gammaDraw (i + 1) else gammaEntry i

end Config

/-- The frame buffers FB and CB, and the payload of a buffer write: FBLEN bytes. -/
abbrev Buffer := Table Byte Config.fbLen

/-- The open parameters of `00_scope.md` rule R5, as one value. -/
structure Params where
  /-- GAMMA_TABLE (`10_state.md` rule R29). -/
  gammaTable : Table Byte 256
  /-- NAMED_TABLE (`10_state.md` rule R30). -/
  namedTable : Table Color 10
  /-- DEV_ADDR (`10_state.md` rule R31). -/
  devAddr : Byte
  /-- REG_BANKSEL. -/
  regBankSel : Byte
  /-- REG_COLOR. -/
  regColor : Byte
  /-- REG_FRAMESEL. -/
  regFrameSel : Byte
  /-- BANK_CONFIG. -/
  bankConfig : Byte
  deriving DecidableEq, Repr

/-- The constraints the spec puts on the open parameters: `42_gamma.md` rule R141 for the gamma table (zero at
index 0, non-decreasing) and `00_scope.md` rule R5 for BANK_CONFIG (not 0, not 1). -/
abbrev Params.wf (p : Params) : Prop :=
  p.gammaTable.get 0 = 0 ∧
  (∀ i : Fin 255, (p.gammaTable.get i.castSucc).toNat ≤ (p.gammaTable.get i.succ).toNat) ∧
  p.bankConfig ≠ 0 ∧ p.bankConfig ≠ 1

/-- The machine's own parameters: the open constants and nothing more. -/
def Params.platform : Params where
  gammaTable := .tabulate fun i => Config.gammaEntry i.val
  namedTable := .tabulate fun i => Config.namedDraw i.val
  devAddr := Config.devAddr
  regBankSel := Config.regBankSel
  regColor := Config.regColor
  regFrameSel := Config.regFrameSel
  bankConfig := BitVec.ofNat 8 (Config.bankConfigDraw.val + 2)

/-- An unspecified buffer: draw number `d` of the scratch contents. -/
def Config.scratchBuffer (d : Nat) : Buffer :=
  .tabulate fun i => Config.scratchDraw d i.val

end Sys2Proof
end

