-- ==== Sys2Proof/Machine/State.lean ====
section
/-! DEFINITION. Everything the spec gives the block (`10_state.md` rule R20), the two input queues through which the
host and the transport drive it, the two histories claims are stated about, and the state after reset. -/

namespace Sys2Proof.Machine

/-- K, the number of the transport operation being attempted (`10_state.md` rule R27): 1 bank select, 2 buffer
write, 3 configuration-bank select, 4 frame select (`43_display.md` rules R153 to R155). -/
inductive OpNum where
  | bankSelect | bufferWrite | configSelect | frameSelect
  deriving DecidableEq, Repr

/-- DRV with its counter K (`10_state.md` rule R27); K means nothing while the driver is idle. -/
inductive Driver where
  | idle
  | transferring (k : OpNum)
  deriving DecidableEq, Repr

/-- A request at the transport port (`20_memory.md` rule R60). -/
inductive TransportOp where
  /-- `TWriteByte(dev, reg, val)`. -/
  | writeByte (dev reg val : Byte)
  /-- `TWriteBuffer(dev, reg, bytes)`, byte 0 sent first. -/
  | writeBuffer (dev reg : Byte) (bytes : Buffer)
  deriving DecidableEq, Repr

/-- One record of WIRE (`10_state.md` rule R34): the request and the transport's answer. -/
structure WireRecord where
  op : TransportOp
  ok : Bool
  deriving DecidableEq, Repr

/-- The error kinds a command can end with (`60_exceptions.md` rule R170). InvalidColorInput is never raised
(rule R174) and is left out. -/
inductive ErrKind where
  | outOfBounds
  | transportFailure (k : OpNum)
  | illegalCommand
  deriving DecidableEq, Repr

/-- What can reach the block while it is idle: a host access with a 3-bit register number (`20_memory.md` rules
R52, R53), or the reset input (`70_reset_and_hazards.md` rule R190). -/
inductive HostEvent where
  | read (n : BitVec 3)
  | write (n : BitVec 3) (w : Word)
  | reset
  deriving DecidableEq, Repr

/-- What can reach the block while a transport operation is outstanding: the transport's one-bit answer
(`20_memory.md` rule R60), or the reset input (`70_reset_and_hazards.md` rule R192). -/
inductive TransportEvent where
  | answer (ok : Bool)
  | reset
  deriving DecidableEq, Repr

/-- The word a host read was answered with, and the register it asked for. -/
structure HostReply where
  reg : BitVec 3
  value : Word
  deriving DecidableEq, Repr

/-- The state. The first thirteen fields are the block's, as `10_state.md` rule R20 lists them (K is inside `drv`,
FB and CB are the scratch buffers); the rest are the model's. -/
structure State where
  /-- A0, operand register 0 (`10_state.md` rule R21). -/
  a0 : Word
  /-- A1, operand register 1 (rule R21). -/
  a1 : Word
  /-- A2, operand register 2 (rule R21). -/
  a2 : Word
  /-- R0, result register 0 (rule R22). -/
  r0 : Word
  /-- R1, result register 1 (rule R22). -/
  r1 : Word
  /-- STATUS.ERR, the completion code of the last command (rule R24). -/
  err : BitVec 4
  /-- STATUS.FSTEP, the failed transport operation (rule R24). -/
  fstep : BitVec 3
  /-- AF, the active-frame bit (rule R26), STATUS bit 8. -/
  af : BitVec 1
  /-- GRID, 72 cells; cell (col, row) is element row × 12 + col (rule R25). -/
  grid : Table Color Config.nCell
  /-- DRV and K (rule R27). -/
  drv : Driver
  /-- FB, the flattened frame buffer (rule R28). -/
  fb : Buffer
  /-- CB, the gamma-corrected buffer (rule R28). -/
  cb : Buffer
  /-- WIRE, the history of the transport port, oldest first (rule R34). -/
  wire : List WireRecord
  /-- The constants of rules R29, R30 and R31: no step changes them (assumption 1). -/
  params : Params
  /-- Input: what the host port will present, oldest first (assumption 2). -/
  host : List HostEvent
  /-- Input: what the transport port will answer, oldest first (assumption 3). -/
  transport : List TransportEvent
  /-- History of the words host reads were answered with, oldest first (assumption 4). -/
  replies : List HostReply
  /-- How many unspecified scratch buffers have been drawn so far (assumption 5). -/
  draws : Nat
  deriving DecidableEq, Repr

/-- Why the machine stops. No constructor: every command word and every host access has an effect, and the block's
own errors are completion codes after which it goes on (`30_encoding.md` rule R86, `60_exceptions.md` rule R178).
Nobody raises a fault; nothing is lost by it, so this is safe. -/
inductive Fault where
  deriving DecidableEq, Repr

/-- What the model gives no meaning to. -/
inductive Refusal where
  /-- An instruction without a meaning in the model, by its mnemonic. Raised by an arm of `exec` only, and by none
  in this model; stopping there would be safe. -/
  | notModelled (mnemonic : String)
  deriving DecidableEq, Repr

/-- The state after reset, `10_state.md` rule R35 and `70_reset_and_hazards.md` rule R191: registers, STATUS and AF
0, every cell black, the driver idle. FB and CB are unspecified there: draws 0 and 1 of an opaque constant
(assumption 5). The parameters are the open constants, and both input queues are empty (assumption 2). -/
def State.reset : State where
  a0 := 0
  a1 := 0
  a2 := 0
  r0 := 0
  r1 := 0
  err := 0
  fstep := 0
  af := Config.afReset
  grid := .replicate Config.nCell 0
  drv := .idle
  fb := Config.scratchBuffer 0
  cb := Config.scratchBuffer 1
  wire := []
  params := .platform
  host := []
  transport := []
  replies := []
  draws := 2

end Sys2Proof.Machine
end

