-- ==== Sys2Proof/Machine/Operands.lean ====
section
/-! DEFINITION. Every operand form of `30_encoding.md` rule R84, and how a result occupies a register. -/

namespace Sys2Proof.Machine

/-- `sint(w)`: the word as a two's-complement integer (`00_scope.md` rule R6). -/
def sint (w : Word) : Int := w.toInt

/-- `zext_32(v)`: a value of at most 32 bits in the low bits of a word (`00_scope.md` rule R6, `20_memory.md` rule
R56). -/
def zext32 {n : Nat} (v : BitVec n) : Word := v.setWidth 32

/-- A Color operand: bits 23:0, bits 31:24 ignored (rule R84). -/
def colorOperand (w : Word) : Color := w.extractLsb' 0 24

/-- A byte operand: bits 7:0, bits 31:8 ignored (rule R84). -/
def byteOperand (w : Word) : Byte := w.extractLsb' 0 8

/-- Red of a Color, bits 23:16 (`40_colorcodec.md` rule R100). -/
def red (c : Color) : Byte := c.extractLsb' 16 8

/-- Green of a Color, bits 15:8 (rule R100). -/
def green (c : Color) : Byte := c.extractLsb' 8 8

/-- Blue of a Color, bits 7:0 (rule R100). -/
def blue (c : Color) : Byte := c.extractLsb' 0 8

/-- Channel 0 red, 1 green, 2 blue: the order of a cell's bytes in the frame buffer (`43_display.md` rule R151). -/
def channel (ch : Nat) (c : Color) : Byte :=
  match ch with
  | 0 => red c
  | 1 => green c
  | _ => blue c

/-- `pack(r, g, b)` of `40_colorcodec.md` rule R100: each integer masked to its low 8 bits, red on top. -/
def pack (r g b : Int) : Color :=
  (BitVec.ofInt 8 r ++ BitVec.ofInt 8 g) ++ BitVec.ofInt 8 b

/-- The host register a 3-bit register number names (`20_memory.md` rule R51). -/
def hostReg (n : BitVec 3) : HostReg :=
  match n.toNat with
  | 0 => .a0
  | 1 => .a1
  | 2 => .a2
  | 3 => .cmd
  | 4 => .r0
  | 5 => .r1
  | 6 => .status
  | _ => .reserved

end Sys2Proof.Machine
end

