-- ==== Sys2Proof/Machine/Flags.lean ====
section
/-! DEFINITION. STATUS: completion codes, FSTEP values, and the word a host read of STATUS returns. -/

namespace Sys2Proof.Machine

/-- The number of a transport operation, 1 to 4 (`43_display.md` rules R153 to R155). -/
def OpNum.number : OpNum → BitVec 3
  | .bankSelect => 1
  | .bufferWrite => 2
  | .configSelect => 3
  | .frameSelect => 4

/-- The completion code of an error kind (`60_exceptions.md` rule R170). -/
def ErrKind.code : ErrKind → BitVec 4
  | .outOfBounds => 1
  | .transportFailure _ => 2
  | .illegalCommand => 3

/-- What an error kind leaves in STATUS.FSTEP: the failed operation's number, else 0 (rule R170). -/
def ErrKind.failedStep : ErrKind → BitVec 3
  | .outOfBounds => 0
  | .transportFailure k => k.number
  | .illegalCommand => 0

/-- The STATUS word: ERR in 3:0, FSTEP in 6:4, AF in bit 8, every other bit 0 (`10_state.md` rule R24). -/
def statusWord (s : State) : Word :=
  0#23 ++ s.af ++ 0#1 ++ s.fstep ++ s.err

end Sys2Proof.Machine
end

