-- ==== Sys2Proof/Machine/Ops.lean ====
section
/-! DEFINITION. The operations the meanings share: how a command ends, the grid, the transport port, reset. -/

namespace Sys2Proof.Machine

/-- `complete(OK)` (`00_scope.md` rule R9): ERR and FSTEP become 0 and the driver is idle. -/
def State.complete (s : State) : State :=
  { s with err := 0, fstep := 0, drv := .idle }

/-- `raise E` (`00_scope.md` rule R9, `60_exceptions.md` rule R176): the one way an error is taken. ERR becomes the
kind's code, FSTEP its operation number or 0, the driver is idle; nothing else is saved or changed. There is no
return from it (rule R178): the next command runs as after a success. -/
def State.raise (e : ErrKind) (s : State) : State :=
  { s with err := e.code, fstep := e.failedStep, drv := .idle }

/-- A command's result in R0 (`10_state.md` rule R22). -/
def State.writeR0 (v : Word) (s : State) : State := { s with r0 := v }

/-- A command's result in R1 (`10_state.md` rule R22). -/
def State.writeR1 (v : Word) (s : State) : State := { s with r1 := v }

/-- `InBounds(col, row)` (`20_memory.md` rule R55). -/
abbrev inBounds (col row : Int) : Prop :=
  0 ≤ col ∧ col < Config.cols ∧ 0 ≤ row ∧ row < Config.rows

/-- `CellIndex(col, row) = row × COLS + col`, for a pair that is in bounds (rule R55). -/
def cellIndex (col row : Int) (h : inBounds col row) : Fin Config.nCell :=
  ⟨(row * 12 + col).toNat, by obtain ⟨h1, h2, h3, h4⟩ := h; simp only [Config.cols, Config.rows, Config.nCell] at *; omega⟩

/-- `GridRead(col, row)` (rule R55); nothing where the rule raises OutOfBounds. -/
def gridRead (col row : Int) (s : State) : Option Color :=
  if h : inBounds col row then some (s.grid.get (cellIndex col row h)) else none

/-- `GridWrite(col, row, v)` (rule R55); nothing where the rule raises OutOfBounds. -/
def gridWrite (col row : Int) (v : Color) (s : State) : Option State :=
  if h : inBounds col row then some { s with grid := s.grid.set (cellIndex col row h) v } else none

/-- `GAMMA_TABLE[b]`: a byte is always a legal index (`20_memory.md` rule R57). -/
def gammaLookup (p : Params) (b : Byte) : Byte := p.gammaTable.get b.toFin

/-- WIRE gains the record of an answered operation (`20_memory.md` rule R60), whatever the answer. -/
def State.recordWire (op : TransportOp) (ok : Bool) (s : State) : State :=
  { s with wire := s.wire ++ [⟨op, ok⟩] }

/-- The reset event (`70_reset_and_hazards.md` rules R191, R192): registers, STATUS, AF, grid and driver as in
`10_state.md` rule R35; FB and CB fresh unspecified contents (assumption 5); the constants and WIRE stay, and what
has not yet arrived at the two ports is the environment's. -/
def State.resetEvent (s : State) : State :=
  { State.reset with
    fb := Config.scratchBuffer s.draws
    cb := Config.scratchBuffer (s.draws + 1)
    draws := s.draws + 2
    wire := s.wire
    params := s.params
    host := s.host
    transport := s.transport
    replies := s.replies }

end Sys2Proof.Machine
end

