-- ==== Sys2Proof/Machine/ColorCodec.lean ====
section
/-! DEFINITION. ColorCodec: PACKRGB, UNPACKR, UNPACKG, UNPACKB, HSL, NAMED (`40_colorcodec.md`). -/

namespace Sys2Proof.Machine

/-- `clamp(v, lo, hi)` (`00_scope.md` rule R7). -/
def clamp (v lo hi : Int) : Int :=
  if v < lo then lo else if v > hi then hi else v

/-- Step 2 of rule R106, chroma: `((100 - |2l - 100|) * s * 256) div 10000`. -/
def hslChroma (s l : Int) : Int := ((100 - |2 * l - 100|) * s * 256) / 10000

/-- Step 3, hue sector: `h div 60`. -/
def hslSector (h : Int) : Int := h / 60

/-- Step 3, fraction within the sector: `((h - h1*60) * 256) div 60`. -/
def hslFraction (h : Int) : Int := ((h - hslSector h * 60) * 256) / 60

/-- Step 4, `|((h1 mod 2) * 256 + h2) - 256|`. -/
def hslTemp (h : Int) : Int := |(hslSector h % 2 * 256 + hslFraction h) - 256|

/-- Step 4, second-largest component: `(c * (256 - temp)) >> 8`. -/
def hslSecond (h s l : Int) : Int := (hslChroma s l * (256 - hslTemp h)) >>> (8 : Nat)

/-- Step 5, the sector table. -/
def hslSectorRgb (h1 c x : Int) : Int × Int × Int :=
  if h1 = 0 then (c, x, 0)
  else if h1 = 1 then (x, c, 0)
  else if h1 = 2 then (0, c, x)
  else if h1 = 3 then (0, x, c)
  else if h1 = 4 then (x, 0, c)
  else (c, 0, x)

/-- Step 6, lightness offset: `(((l * 2 * 256) div 100) - c) div 2`. -/
def hslOffset (s l : Int) : Int := ((l * 2 * 256) / 100 - hslChroma s l) / 2

/-- Steps 2 to 6 on normalised inputs: the three components before packing. -/
def hslComponents (h s l : Int) : Int × Int × Int :=
  let rgb := hslSectorRgb (hslSector h) (hslChroma s l) (hslSecond h s l)
  let m := hslOffset s l
  (rgb.1 + m, rgb.2.1 + m, rgb.2.2 + m)

/-- Step 1, the hue wraps: Euclidean remainder by 360. -/
def hslHue (h : Int) : Int := h % 360

/-- Step 1, saturation and luminosity clamp to 0..99. -/
def hslPercent (v : Int) : Int := clamp v 0 99

/-- `hsl_color(h, s, l)` of rule R106, for any integers. -/
def hslColor (h s l : Int) : Color :=
  let rgb := hslComponents (hslHue h) (hslPercent s) (hslPercent l)
  pack rgb.1 rgb.2.1 rgb.2.2

/-- PACKRGB (rule R101). -/
def execPackrgb (s : State) : Host.Outcome State Fault Refusal :=
  .next (s.writeR0 (zext32 (pack (sint s.a0) (sint s.a1) (sint s.a2)))).complete

/-- UNPACKR (rule R102). -/
def execUnpackr (s : State) : Host.Outcome State Fault Refusal :=
  .next (s.writeR0 (zext32 (red (colorOperand s.a0)))).complete

/-- UNPACKG (rule R103). -/
def execUnpackg (s : State) : Host.Outcome State Fault Refusal :=
  .next (s.writeR0 (zext32 (green (colorOperand s.a0)))).complete

/-- UNPACKB (rule R104). -/
def execUnpackb (s : State) : Host.Outcome State Fault Refusal :=
  .next (s.writeR0 (zext32 (blue (colorOperand s.a0)))).complete

/-- HSL (rule R105). -/
def execHsl (s : State) : Host.Outcome State Fault Refusal :=
  .next (s.writeR0 (zext32 (hslColor (sint s.a0) (sint s.a1) (sint s.a2)))).complete

/-- NAMED (rule R110). An index of 10 to 15 is not this command but an illegal word (`30_encoding.md` rule R85),
so it ends as one. -/
def execNamed (idx : BitVec 4) (s : State) : Host.Outcome State Fault Refusal :=
  if h : idx.toNat < 10 then
    .next (s.writeR0 (zext32 (s.params.namedTable.get ⟨idx.toNat, h⟩))).complete
  else .next (s.raise .illegalCommand)

end Sys2Proof.Machine
end

