-- ==== Sys2Proof/Machine/Display.lean ====
section
/-! DEFINITION. DisplayDriver: SHOW, its serializer, gamma pipeline and frame-swap controller (`43_display.md`).

The transfer is written as the small-step machine of rule R158. SHOW starts it and takes at once the answers the
transport has ready (`20_memory.md` rule R54: one indivisible action for the host). Where an answer is not ready the
block is left in Transferring, which is the hang of rule R160; a later step goes on from there. -/

namespace Sys2Proof.Machine

/-- Step 1, flatten (rule R151): byte `3 i + ch` is channel `ch` of cell `i`. -/
def flatten (g : Table Color Config.nCell) : Buffer :=
  .tabulate fun j => channel (j.val % 3)
    (g.get ⟨j.val / 3, by have := j.isLt; simp only [Config.fbLen, Config.nCell] at *; omega⟩)

/-- Step 2, gamma (rule R152): every byte of the flattened buffer through the table. -/
def gammaCorrect (p : Params) (b : Buffer) : Buffer := b.map (gammaLookup p)

/-- `t = AF xor 1`, the inactive frame as an 8-bit value (rule R153). -/
def inactiveFrame (s : State) : Byte := (s.af ^^^ 1#1).setWidth 8

/-- The request of operation `k` (rules R153 to R155). -/
def transportRequest (k : OpNum) (s : State) : TransportOp :=
  match k with
  | .bankSelect => .writeByte s.params.devAddr s.params.regBankSel (inactiveFrame s)
  | .bufferWrite => .writeBuffer s.params.devAddr s.params.regColor s.cb
  | .configSelect => .writeByte s.params.devAddr s.params.regBankSel s.params.bankConfig
  | .frameSelect => .writeByte s.params.devAddr s.params.regFrameSel (inactiveFrame s)

/-- What follows the success of operation `k` (rule R158): the next operation, or, after the fourth, the toggle of
rule R156 and `complete(OK)`. -/
def transferNext (k : OpNum) (s : State) : State :=
  match k with
  | .bankSelect => { s with drv := .transferring .bufferWrite }
  | .bufferWrite => { s with drv := .transferring .configSelect }
  | .configSelect => { s with drv := .transferring .frameSelect }
  | .frameSelect => { s with af := s.af ^^^ 1#1 }.complete

/-- The transport answers operation `k` (rules R157, R158): the record, then the next operation or the failure. -/
def transportAnswer (k : OpNum) (ok : Bool) (s : State) : State :=
  let t := s.recordWire (transportRequest k s) ok
  if ok then transferNext k t else t.raise (.transportFailure k)

/-- One row of the table of rule R158: an outstanding operation and an answer at the port. Without an answer
nothing happens (rule R160), and in Idle there is nothing to answer. -/
def transferStep (s : State) : State :=
  match s.drv, s.transport with
  | .transferring k, .answer ok :: rest => transportAnswer k ok { s with transport := rest }
  | .transferring _, _ => s
  | .idle, _ => s

/-- At most `fuel` rows of rule R158. -/
def runTransfer : Nat → State → State
  | 0, s => s
  | fuel + 1, s => runTransfer fuel (transferStep s)

/-- The start of SHOW (first row of rule R158): steps 1 and 2, then operation 1 is outstanding. -/
def showStart (s : State) : State :=
  let fb := flatten s.grid
  { s with fb := fb, cb := gammaCorrect s.params fb, drv := .transferring .bankSelect }

/-- SHOW (rule R150): the start, then the four operations as far as the transport answers them. -/
def execShow (s : State) : Host.Outcome State Fault Refusal :=
  .next (runTransfer 4 (showStart s))

end Sys2Proof.Machine
end

