-- ==== Sys2Proof/Machine/GammaTable.lean ====
section
/-! DEFINITION. GammaTable: GAMMA (`42_gamma.md`). -/

namespace Sys2Proof.Machine

/-- GAMMA (rule R140). -/
def execGamma (s : State) : Host.Outcome State Fault Refusal :=
  .next (s.writeR0 (zext32 (gammaLookup s.params (byteOperand s.a0)))).complete

end Sys2Proof.Machine
end

