-- ==== Sys2Proof/Machine/PixelGrid.lean ====
section
/-! DEFINITION. PixelGrid: PSET, PGET, DIMS (`41_pixelgrid.md`). -/

namespace Sys2Proof.Machine

/-- PSET (rule R130): write one cell, or OutOfBounds with the grid untouched. -/
def execPset (s : State) : Host.Outcome State Fault Refusal :=
  match gridWrite (sint s.a0) (sint s.a1) (colorOperand s.a2) s with
  | some t => .next t.complete
  | none => .next (s.raise .outOfBounds)

/-- PGET (rule R131): read one cell into R0, or OutOfBounds with R0 untouched. -/
def execPget (s : State) : Host.Outcome State Fault Refusal :=
  match gridRead (sint s.a0) (sint s.a1) s with
  | some c => .next (s.writeR0 (zext32 c)).complete
  | none => .next (s.raise .outOfBounds)

/-- DIMS (rule R132): R0 gets COLS and R1 gets ROWS. -/
def execDims (s : State) : Host.Outcome State Fault Refusal :=
  .next ((s.writeR0 (BitVec.ofNat 32 Config.cols)).writeR1 (BitVec.ofNat 32 Config.rows)).complete

end Sys2Proof.Machine
end

