-- ==== Sys2Proof/Machine/Dispatch.lean ====
section
/-! DEFINITION. Which meaning each command has. -/

namespace Sys2Proof.Machine

def exec (i : Instr) (s : State) : Host.Outcome State Fault Refusal :=
  match i with
  | .packrgb => Sys2Proof.Machine.execPackrgb s
  | .unpackr => Sys2Proof.Machine.execUnpackr s
  | .unpackg => Sys2Proof.Machine.execUnpackg s
  | .unpackb => Sys2Proof.Machine.execUnpackb s
  | .hsl => Sys2Proof.Machine.execHsl s
  | .named idx => Sys2Proof.Machine.execNamed idx s
  | .pset => Sys2Proof.Machine.execPset s
  | .pget => Sys2Proof.Machine.execPget s
  | .dims => Sys2Proof.Machine.execDims s
  | .gamma => Sys2Proof.Machine.execGamma s
  | .showFrame => Sys2Proof.Machine.execShow s

end Sys2Proof.Machine
end

