-- ==== Sys2Proof/Machine/HostPort.lean ====
section
/-! DEFINITION. The host port: reading and writing the eight host registers, and what a write to CMD runs
(`20_memory.md` rules R51 to R54). -/

namespace Sys2Proof.Machine

/-- The read column of `20_memory.md` rule R51. -/
def hostRegValue (r : HostReg) (s : State) : Word :=
  match r with
  | .a0 => s.a0
  | .a1 => s.a1
  | .a2 => s.a2
  | .cmd => 0
  | .r0 => s.r0
  | .r1 => s.r1
  | .status => statusWord s
  | .reserved => 0

/-- `HostRead(n)` (rule R52): the word returned. -/
def hostRead (n : BitVec 3) (s : State) : Word := hostRegValue (hostReg n) s

/-- The host gets the word of `HostRead(n)`; the block does not change (rule R52), the model notes the reply. -/
def State.answerRead (n : BitVec 3) (s : State) : State :=
  { s with replies := s.replies ++ [⟨n, hostRead n s⟩] }

/-- A write of `w` to CMD (rule R54): the command it encodes, or IllegalCommand (`60_exceptions.md` rule R173). -/
def runCommand (w : Word) (s : State) : Host.Outcome State Fault Refusal :=
  match decode w with
  | .ok i => exec i s
  | .error _ => .next (s.raise .illegalCommand)

/-- `HostWrite(n, w)` (rule R53). -/
def hostWrite (n : BitVec 3) (w : Word) (s : State) : Host.Outcome State Fault Refusal :=
  match hostReg n with
  | .a0 => .next { s with a0 := w }
  | .a1 => .next { s with a1 := w }
  | .a2 => .next { s with a2 := w }
  | .cmd => runCommand w s
  | .r0 => .next s
  | .r1 => .next s
  | .status => .next s
  | .reserved => .next s

/-- One host event at an idle block. -/
def hostEvent (e : HostEvent) (s : State) : Host.Outcome State Fault Refusal :=
  match e with
  | .read n => .next (s.answerRead n)
  | .write n w => hostWrite n w s
  | .reset => .next s.resetEvent

/-- An idle block takes the next host event; without one it holds its state (`60_exceptions.md` rule R185). -/
def idleStep (s : State) : Host.Outcome State Fault Refusal :=
  match s.host with
  | [] => .next s
  | e :: rest => hostEvent e { s with host := rest }

/-- A block with a transport operation outstanding takes the next transport event; the host port is closed meanwhile
(rule R54). Without an event it waits (`43_display.md` rule R160); a reset ends the SHOW where it stands
(`70_reset_and_hazards.md` rule R192). -/
def transferringStep (s : State) : State :=
  match s.transport with
  | .reset :: rest => { s with transport := rest }.resetEvent
  | _ => transferStep s

end Sys2Proof.Machine
end

