-- ==== Sys2Proof/Machine/Step.lean ====
section
/-! DEFINITION. One step of the machine, and how a command word is put where the next step takes it from. -/

namespace Sys2Proof.Machine

/-- One step: one host event at an idle block, or one transport event at a transferring one. A host event that
writes CMD runs its whole command (`20_memory.md` rule R54). -/
def step (s : State) : Host.Outcome State Fault Refusal :=
  match s.drv with
  | .idle => idleStep s
  | .transferring _ => .next (transferringStep s)

/-- The state whose next step runs the command word `w`: the block is idle, as it is whenever the host can act, and
the host's next access writes the word to CMD, host register 3 (`10_state.md` rules R23, R32). -/
def State.withFetchWord (s : State) (nbits w : Nat) : State :=
  { s with drv := .idle, host := .write 3 (tableWord nbits w) :: s.host }

end Sys2Proof.Machine
end

