-- ==== Sys2Proof/Safety.lean ====
section
/-! DEFINITION. What claims about runs are stated in terms of: the invariant of `10_state.md` rule R37, and what the
transport port may have seen (`43_display.md` rules R150 to R159, `42_gamma.md` rule R143). -/

namespace Sys2Proof.Machine

/-- The part of `10_state.md` rule R37 that the types do not say already: the completion codes that occur, FSTEP
beside them, and the values R0 and R1 can hold. -/
structure State.Inv (s : State) : Prop where
  err_le : s.err.toNat ≤ 3
  fstep_zero : s.err ≠ 2 → s.fstep = 0
  fstep_range : s.err = 2 → 1 ≤ s.fstep.toNat ∧ s.fstep.toNat ≤ 4
  r0_color : s.r0.toNat < 2 ^ 24
  r1_rows : s.r1 = 0 ∨ s.r1 = 6

/-- The four requests of one SHOW, in the order of `43_display.md` rule R150: `t` is the inactive frame, `bytes` the
corrected buffer. -/
def showRequests (p : Params) (t : Byte) (bytes : Buffer) : List TransportOp :=
  [.writeByte p.devAddr p.regBankSel t,
   .writeBuffer p.devAddr p.regColor bytes,
   .writeByte p.devAddr p.regBankSel p.bankConfig,
   .writeByte p.devAddr p.regFrameSel t]

/-- One SHOW as the transport port saw it: the frame it targets, the grid it was made from, how many of the
operations were answered with success, and whether the one after those was answered with failure. -/
structure Episode where
  frame : BitVec 1
  grid : Table Color Config.nCell
  succeeded : Nat
  failed : Bool
  deriving DecidableEq, Repr

/-- The four requests of an episode. -/
def Episode.requests (p : Params) (e : Episode) : List TransportOp :=
  showRequests p (e.frame.setWidth 8) (gammaCorrect p (flatten e.grid))

/-- The records an episode leaves in WIRE (`43_display.md` rule R159). -/
def Episode.records (p : Params) (e : Episode) : List WireRecord :=
  (e.requests p |>.take e.succeeded |>.map fun op => ⟨op, true⟩) ++
  if e.failed then (e.requests p |>.drop e.succeeded |>.take 1 |>.map fun op => ⟨op, false⟩) else []

/-- How many operations of the SHOW in progress have been answered, all with success. -/
def Driver.answered : Driver → Nat
  | .idle => 0
  | .transferring k => k.number.toNat - 1

/-- The records of the SHOW in progress, none while the driver is idle. -/
def State.pendingRecords (s : State) : List WireRecord :=
  showRequests s.params (inactiveFrame s) (gammaCorrect s.params (flatten s.grid))
    |>.take s.drv.answered |>.map fun op => ⟨op, true⟩

/-- The transport has seen nothing but SHOWs, each a beginning of the four requests in their order with the bytes of
some grid after gamma correction; the last may still be in progress, and then CB holds the bytes of the grid as it
stands. -/
structure State.WireInv (s : State) : Prop where
  wire_eq : ∃ es : List Episode, s.wire = es.flatMap (Episode.records s.params) ++ s.pendingRecords
  cb_eq : ∀ k, s.drv = .transferring k → s.cb = gammaCorrect s.params (flatten s.grid)

end Sys2Proof.Machine
end

