-- ==== Sys2Proof/Certificates/Slice0/Obligations.lean ====
section
/-! DEFINITION. The statements for the provers. Each formalises the rule its docstring cites; numbers and formulas
are written out from the spec where the model has a function of its own for them. -/

open Sys2Proof Sys2Proof.Machine

/-! ## Encoding -/

/-- Rules R82, R91: the command words written out, each decoding to its command (sanity). -/
def Obligations.DecodeReadsTheCommandWords : Prop :=
  decode 0x00000001 = .ok .packrgb ∧ decode 0x00000002 = .ok .unpackr ∧ decode 0x00000003 = .ok .unpackg ∧
  decode 0x00000004 = .ok .unpackb ∧ decode 0x00000005 = .ok .hsl ∧ decode 0x00000007 = .ok .pset ∧
  decode 0x00000008 = .ok .pget ∧ decode 0x00000009 = .ok .dims ∧ decode 0x0000000A = .ok .gamma ∧
  decode 0x0000000B = .ok .showFrame ∧ decode 0x00000006 = .ok (.named 0) ∧ decode 0x00000016 = .ok (.named 1) ∧
  decode 0x00000086 = .ok (.named 8) ∧ decode 0x00000096 = .ok (.named 9)

/-- Rule R82, match and mask columns: a word selects a row exactly when `(w & mask) = match`; for NAMED the index is
`w[7:4]` and must be at most 9. -/
def Obligations.OpcodeMapSelectsByMatchAndMask : Prop :=
  ∀ w : Word,
    (decode w = .ok .packrgb ↔ w &&& 0xFFFFFFFF = 0x00000001) ∧
    (decode w = .ok .unpackr ↔ w &&& 0xFFFFFFFF = 0x00000002) ∧
    (decode w = .ok .unpackg ↔ w &&& 0xFFFFFFFF = 0x00000003) ∧
    (decode w = .ok .unpackb ↔ w &&& 0xFFFFFFFF = 0x00000004) ∧
    (decode w = .ok .hsl ↔ w &&& 0xFFFFFFFF = 0x00000005) ∧
    (∀ idx, decode w = .ok (.named idx) ↔
      w &&& 0xFFFFFF0F = 0x00000006 ∧ idx.toNat = w.toNat / 16 % 16 ∧ idx.toNat ≤ 9) ∧
    (decode w = .ok .pset ↔ w &&& 0xFFFFFFFF = 0x00000007) ∧
    (decode w = .ok .pget ↔ w &&& 0xFFFFFFFF = 0x00000008) ∧
    (decode w = .ok .dims ↔ w &&& 0xFFFFFFFF = 0x00000009) ∧
    (decode w = .ok .gamma ↔ w &&& 0xFFFFFFFF = 0x0000000A) ∧
    (decode w = .ok .showFrame ↔ w &&& 0xFFFFFFFF = 0x0000000B)

/-- Rule R88: `decode(encode(c)) = c` for every command. -/
def Obligations.DecodeEncodeRoundTrip : Prop :=
  ∀ i : Instr, i.wf = true → decode (encode i) = .ok i

/-- Rule R88: `encode(decode(w)) = w` for every legal word, and what a word decodes to is well formed. -/
def Obligations.EncodeDecodeRoundTrip : Prop :=
  ∀ (w : Word) (i : Instr), decode w = .ok i → i.wf = true ∧ encode i = w

/-- Rule R85, whole: which words are illegal, what a write of one to CMD does, that 20 words are legal, and that the
all-zero word is not one of them. -/
def Obligations.IllegalWordsRaiseIllegalCommand : Prop :=
  (∀ w : Word, (∃ e, decode w = .error e) ↔
    w.toNat / 256 ≠ 0 ∨ w.toNat % 16 ∈ [0x0, 0xC, 0xD, 0xE, 0xF] ∨
    (w.toNat % 16 ≠ 0x6 ∧ w.toNat / 16 % 16 ≠ 0) ∨ (w.toNat % 16 = 0x6 ∧ w.toNat / 16 % 16 ≥ 10)) ∧
  (∀ (w : Word) (s : State), (∃ e, decode w = .error e) →
    hostWrite 3 w s = .next { s with err := 3, fstep := 0, drv := .idle }) ∧
  (∃ legal : List Word, legal.length = 20 ∧ legal.Nodup ∧ ∀ w, w ∈ legal ↔ ∃ i, decode w = .ok i) ∧
  (∃ e, decode 0x00000000 = .error e)

/-! ## The host port -/

/-- Rules R51 and R53: the whole host register map, read column and write column. -/
def Obligations.HostRegisterMap : Prop :=
  ∀ (s : State) (w : Word),
    (hostRead 0 s = s.a0 ∧ hostRead 1 s = s.a1 ∧ hostRead 2 s = s.a2 ∧ hostRead 3 s = 0 ∧
     hostRead 4 s = s.r0 ∧ hostRead 5 s = s.r1 ∧
     (hostRead 6 s).toNat = s.err.toNat + 16 * s.fstep.toNat + 256 * s.af.toNat ∧ hostRead 7 s = 0) ∧
    hostWrite 0 w s = .next { s with a0 := w } ∧ hostWrite 1 w s = .next { s with a1 := w } ∧
    hostWrite 2 w s = .next { s with a2 := w } ∧
    (∀ i, decode w = .ok i → hostWrite 3 w s = exec i s) ∧
    (∀ e, decode w = .error e → hostWrite 3 w s = .next { s with err := 3, fstep := 0, drv := .idle }) ∧
    (∀ n : BitVec 3, 4 ≤ n.toNat → hostWrite n w s = .next s)

/-- Rule R24: where each field of STATUS stands in the word a host reads. -/
def Obligations.StatusWordFields : Prop :=
  ∀ s : State, (hostRead 6 s).extractLsb' 0 4 = s.err ∧ (hostRead 6 s).extractLsb' 4 3 = s.fstep ∧
    (hostRead 6 s).extractLsb' 7 1 = 0 ∧ (hostRead 6 s).extractLsb' 8 1 = s.af ∧
    (hostRead 6 s).extractLsb' 9 23 = 0

/-- Rule R52: a host read changes nothing in the block; the model alone notes the word it returned (`replies` is the
model's record, log entry 4). -/
def Obligations.HostReadChangesNoBlockState : Prop :=
  ∀ (s : State) (n : BitVec 3) (rest : List HostEvent), s.drv = .idle → s.host = .read n :: rest →
    step s = .next { s with host := rest, replies := s.replies ++ [⟨n, hostRead n s⟩] }

/-- Rules R23, R54: the step at which the host writes the word of a command to CMD is that command, run whole. -/
def Obligations.StepRunsTheDecodedCommand : Prop :=
  ∀ (s : State) (w : Word) (rest : List HostEvent), s.drv = .idle → s.host = .write 3 w :: rest →
    (∀ i, decode w = .ok i → step s = exec i { s with host := rest }) ∧
    (∀ e, decode w = .error e → step s = .next { s with host := rest, err := 3, fstep := 0 })

/-- The fetch the host uses (log entry 2): a word placed by `withFetchWord` is run by the very next step. -/
def Obligations.PlacedWordRunsNext : Prop :=
  ∀ (s : State) (i : Instr), i.wf = true →
    step (s.withFetchWord 32 (encode i).toNat) = exec i { s with drv := .idle }

/-- Rule R90: operands written to A0, A1, A2 and then a word written to CMD run that command on them. -/
def Obligations.OperandLoadsThenCommand : Prop :=
  ∀ (s : State) (x y z w : Word) (i : Instr) (rest : List HostEvent), s.drv = .idle → decode w = .ok i →
    s.host = .write 0 x :: .write 1 y :: .write 2 z :: .write 3 w :: rest →
    Sys2Proof.core.run 4 s = exec i { s with a0 := x, a1 := y, a2 := z, host := rest }

/-- Rule R32: the host's position advances by exactly one per access, whatever the outcome. -/
def Obligations.EachAccessIsTakenOnce : Prop :=
  ∀ (s t : State) (e : HostEvent) (rest : List HostEvent), s.drv = .idle → s.host = e :: rest →
    step s = .next t → t.host = rest

/-- Rule R54: while an operation is outstanding the host port takes nothing and answers nothing. -/
def Obligations.HostPortIsClosedDuringTransfer : Prop :=
  ∀ (s t : State) (k : OpNum), s.drv = .transferring k → step s = .next t →
    t.host = s.host ∧ t.replies = s.replies

/-- Rule R185: an idle block at which the host does nothing holds its whole state, however long. -/
def Obligations.IdleBlockHoldsItsState : Prop :=
  ∀ (s : State), s.drv = .idle → s.host = [] → ∀ n, Sys2Proof.core.run n s = .next s

/-- No state stops the machine; every step answers a next state. This is the model's deduction (log entry 9), from
rule R86 (no word without a defined behaviour), rule R178 (after an error the block is ready again) and the row 'no
answer, nothing, unchanged' of rule R158; `93_implementation_defined.md` U7 calls that last case stuck, and the model's
step answers the same state there. -/
def Obligations.EveryStepAnswersANextState : Prop :=
  ∀ s : State, ∃ t, step s = .next t

/-! ## ColorCodec -/

/-- Rule R101, whole: PACKRGB on any operands, by the masks and by the concatenation. -/
def Obligations.PackrgbResult : Prop :=
  decode 0x00000001 = .ok .packrgb ∧
  ∀ s : State,
    exec .packrgb s = .next { s with
      r0 := BitVec.ofInt 32 (s.a0.toInt % 256 * 65536 + s.a1.toInt % 256 * 256 + s.a2.toInt % 256)
      err := 0, fstep := 0, drv := .idle } ∧
    exec .packrgb s = .next { s with
      r0 := ((0#8 ++ s.a0.extractLsb' 0 8) ++ s.a1.extractLsb' 0 8) ++ s.a2.extractLsb' 0 8
      err := 0, fstep := 0, drv := .idle }

/-- Rules R102 to R104: the channel extractors on any A0; bits 31:24 of A0 play no part. -/
def Obligations.UnpackResults : Prop :=
  decode 0x00000002 = .ok .unpackr ∧ decode 0x00000003 = .ok .unpackg ∧ decode 0x00000004 = .ok .unpackb ∧
  ∀ s : State,
    exec .unpackr s = .next { s with
      r0 := BitVec.ofNat 32 (s.a0.toNat / 65536 % 256), err := 0, fstep := 0, drv := .idle } ∧
    exec .unpackg s = .next { s with
      r0 := BitVec.ofNat 32 (s.a0.toNat / 256 % 256), err := 0, fstep := 0, drv := .idle } ∧
    exec .unpackb s = .next { s with
      r0 := BitVec.ofNat 32 (s.a0.toNat % 256), err := 0, fstep := 0, drv := .idle }

/-- Rules R105 and R106: `hsl_color` on any integers, the seven steps in one piece as the spec writes them, and HSL
as that function of the signed operands. -/
def Obligations.HslRunsTheSevenSteps : Prop :=
  decode 0x00000005 = .ok .hsl ∧
  (∀ hue saturation luminosity : Int,
    let h : Int := hue % 360
    let s : Int := if saturation < 0 then 0 else if saturation > 99 then 99 else saturation
    let l : Int := if luminosity < 0 then 0 else if luminosity > 99 then 99 else luminosity
    let c : Int := (100 - |2 * l - 100|) * s * 256 / 10000
    let h1 : Int := h / 60
    let h2 : Int := (h - h1 * 60) * 256 / 60
    let temp : Int := |h1 % 2 * 256 + h2 - 256|
    let x : Int := c * (256 - temp) / 256
    let m : Int := (l * 2 * 256 / 100 - c) / 2
    let rgb : Int × Int × Int :=
      if h1 = 0 then (c, x, 0) else if h1 = 1 then (x, c, 0) else if h1 = 2 then (0, c, x)
      else if h1 = 3 then (0, x, c) else if h1 = 4 then (x, 0, c) else (c, 0, x)
    (hslColor hue saturation luminosity).toNat =
      ((rgb.1 + m) % 256 * 65536 + (rgb.2.1 + m) % 256 * 256 + (rgb.2.2 + m) % 256).toNat) ∧
  ∀ s : State,
    exec .hsl s = .next { s with
      r0 := (hslColor s.a0.toInt s.a1.toInt s.a2.toInt).setWidth 32, err := 0, fstep := 0, drv := .idle }

/-- Rule R107: the bounds of every intermediate of HSL on normalised inputs; no component ever leaves 0 to 255. -/
def Obligations.HslIntermediatesStayInBounds : Prop :=
  ∀ h s l : Int, 0 ≤ h → h < 360 → 0 ≤ s → s ≤ 99 → 0 ≤ l → l ≤ 99 →
    (0 ≤ 100 - |2 * l - 100| ∧ 100 - |2 * l - 100| ≤ 100) ∧
    (0 ≤ (100 - |2 * l - 100|) * s * 256 ∧ (100 - |2 * l - 100|) * s * 256 ≤ 2534400) ∧
    (0 ≤ hslChroma s l ∧ hslChroma s l ≤ 253) ∧
    (0 ≤ hslSector h ∧ hslSector h ≤ 5) ∧
    (0 ≤ h - hslSector h * 60 ∧ h - hslSector h * 60 ≤ 59) ∧
    (0 ≤ hslFraction h ∧ hslFraction h ≤ 251) ∧
    (hslSector h % 2 = 0 → hslTemp h = 256 - hslFraction h ∧ 5 ≤ hslTemp h ∧ hslTemp h ≤ 256) ∧
    (hslSector h % 2 = 1 → hslTemp h = hslFraction h ∧ 0 ≤ hslTemp h ∧ hslTemp h ≤ 251) ∧
    (0 ≤ hslSecond h s l ∧ hslSecond h s l ≤ hslChroma s l) ∧
    (hslSecond h s l = hslChroma s l ↔
      hslChroma s l = 0 ∨ (hslSector h % 2 = 1 ∧ hslFraction h = 0)) ∧
    (0 ≤ l * 2 * 256 / 100 ∧ l * 2 * 256 / 100 ≤ 506) ∧
    (0 ≤ l * 2 * 256 / 100 - hslChroma s l ∧ l * 2 * 256 / 100 - hslChroma s l ≤ 506) ∧
    (0 ≤ hslOffset s l ∧ hslOffset s l ≤ 253) ∧
    (0 ≤ (hslComponents h s l).1 ∧ (hslComponents h s l).1 ≤ 255) ∧
    (0 ≤ (hslComponents h s l).2.1 ∧ (hslComponents h s l).2.1 ≤ 255) ∧
    (0 ≤ (hslComponents h s l).2.2 ∧ (hslComponents h s l).2.2 ≤ 255)

/-- Rule R108 items 1 and 2: the hue wraps by whole turns; saturation and luminosity clamp to 0 to 99. -/
def Obligations.HslHueWrapsAndPercentsClamp : Prop :=
  ∀ h s l k : Int,
    hslColor (h + 360 * k) s l = hslColor h s l ∧
    hslColor h s l = hslColor h (max 0 (min 99 s)) (max 0 (min 99 l))

/-- Rule R108 items 3, 4 and 5: black at luminosity 0, the greys at saturation 0, and no input gives white. -/
def Obligations.HslBlackGreysAndNoWhite : Prop :=
  (∀ h s : Int, hslColor h s 0 = 0x000000) ∧
  (∀ h l : Int, 0 ≤ l → l ≤ 99 → (hslColor h 0 l).toNat = (l * 512 / 100 / 2).toNat * 0x010101) ∧
  (∀ h : Int, hslColor h 0 50 = 0x808080) ∧
  (∀ h : Int, hslColor h 0 99 = 0xFDFDFD) ∧
  (∀ h s l : Int, hslColor h s l ≠ 0xFFFFFF)

/-- Rule R110: NAMED puts the table's colour in R0 for every index 0 to 9; a word with index 10 to 15 is illegal. -/
def Obligations.NamedResult : Prop :=
  ∀ (idx : BitVec 4) (s : State),
    (∀ h : idx.toNat < 10,
      decode (BitVec.ofNat 32 (0x06 + 16 * idx.toNat)) = .ok (.named idx) ∧
      exec (.named idx) s = .next { s with
        r0 := (s.params.namedTable.get ⟨idx.toNat, h⟩).setWidth 32, err := 0, fstep := 0, drv := .idle }) ∧
    (10 ≤ idx.toNat → ∃ e, decode (BitVec.ofNat 32 (0x06 + 16 * idx.toNat)) = .error e)

/-- Rule R111: packing and then extracting gives each channel back, masked to a byte, and packing the channels of a
colour gives the colour. -/
def Obligations.UnpackAfterPackGivesTheChannels : Prop :=
  (∀ s : State, ∃ t, exec .packrgb s = .next t ∧
    (∃ u, exec .unpackr { t with a0 := t.r0 } = .next u ∧ u.r0 = s.a0 &&& 0xFF) ∧
    (∃ u, exec .unpackg { t with a0 := t.r0 } = .next u ∧ u.r0 = s.a1 &&& 0xFF) ∧
    (∃ u, exec .unpackb { t with a0 := t.r0 } = .next u ∧ u.r0 = s.a2 &&& 0xFF)) ∧
  (∀ v : Color, pack (v.extractLsb' 16 8).toNat (v.extractLsb' 8 8).toNat (v.extractLsb' 0 8).toNat = v)

/-- Rule R112: the same integer three times packs to its low byte in each channel. -/
def Obligations.PackingTruncates : Prop :=
  (∀ a : Int, (pack a a a).toNat = (a % 256).toNat * 0x010101) ∧ pack 256 0 0 = pack 0 0 0

/-- Rule R113: no ColorCodec command ends with a completion code other than OK, whatever A0, A1, A2 hold. -/
def Obligations.CodecCommandsNeverFail : Prop :=
  ∀ (i : Instr) (s : State), i.wf = true →
    i ∈ [.packrgb, .unpackr, .unpackg, .unpackb, .hsl] ∨ (∃ idx, i = .named idx) →
    ∃ t, exec i s = .next t ∧ t.err = 0 ∧ t.fstep = 0

/-! ## PixelGrid -/

/-- Rule R130, whole: PSET writes exactly the addressed cell when it is in bounds, and otherwise ends with OutOfBounds
and writes no cell. -/
def Obligations.PsetResult : Prop :=
  decode 0x00000007 = .ok .pset ∧
  ∀ s : State,
    (∀ (col row : Nat) (hc : col < 12) (hr : row < 6), s.a0.toInt = col → s.a1.toInt = row →
      exec .pset s = .next { s with
        grid := s.grid.set ⟨row * 12 + col, by simp only [Config.nCell]; omega⟩ (s.a2.extractLsb' 0 24)
        err := 0, fstep := 0, drv := .idle }) ∧
    (s.a0.toInt < 0 ∨ 12 ≤ s.a0.toInt ∨ s.a1.toInt < 0 ∨ 6 ≤ s.a1.toInt →
      exec .pset s = .next { s with err := 1, fstep := 0, drv := .idle })

/-- Rule R131, whole: PGET reads the addressed cell into R0 when it is in bounds, and otherwise ends with OutOfBounds
and R0 as before; with the grid as reset leaves it a cell reads 0. -/
def Obligations.PgetResult : Prop :=
  decode 0x00000008 = .ok .pget ∧
  ∀ s : State,
    (∀ (col row : Nat) (hc : col < 12) (hr : row < 6), s.a0.toInt = col → s.a1.toInt = row →
      exec .pget s = .next { s with
        r0 := (s.grid.get ⟨row * 12 + col, by simp only [Config.nCell]; omega⟩).setWidth 32
        err := 0, fstep := 0, drv := .idle } ∧
      (s.grid = State.reset.grid → ∃ t, exec .pget s = .next t ∧ t.r0 = 0)) ∧
    (s.a0.toInt < 0 ∨ 12 ≤ s.a0.toInt ∨ s.a1.toInt < 0 ∨ 6 ≤ s.a1.toInt →
      exec .pget s = .next { s with err := 1, fstep := 0, drv := .idle })

/-- Rule R132, whole: DIMS, and that no other command writes R1. -/
def Obligations.DimsResult : Prop :=
  decode 0x00000009 = .ok .dims ∧
  (∀ s : State, exec .dims s = .next { s with
    r0 := 0x0000000C, r1 := 0x00000006, err := 0, fstep := 0, drv := .idle }) ∧
  (∀ (i : Instr) (s t : State), i ≠ .dims → exec i s = .next t → t.r1 = s.r1)

/-- Rules R130, R133 (frame): a PSET changes what is read at no other cell, and what is read at its own cell only to
the colour it was given. -/
def Obligations.PsetChangesNoOtherCell : Prop :=
  ∀ s t : State, exec .pset s = .next t → ∀ col row : Int,
    (¬ (col = s.a0.toInt ∧ row = s.a1.toInt) → gridRead col row t = gridRead col row s) ∧
    (col = s.a0.toInt ∧ row = s.a1.toInt →
      gridRead col row t = if 0 ≤ col ∧ col < 12 ∧ 0 ≤ row ∧ row < 6 then some (s.a2.extractLsb' 0 24) else none)

/-- Rule R133: PSET and then, with a grid no later PSET has touched, PGET at the same cell returns `A2[23:0]`. -/
def Obligations.SetThenGetReturnsTheColour : Prop :=
  ∀ s t u : State, (0 ≤ s.a0.toInt ∧ s.a0.toInt < 12 ∧ 0 ≤ s.a1.toInt ∧ s.a1.toInt < 6) →
    exec .pset s = .next t → u.grid = t.grid → u.a0 = s.a0 → u.a1 = s.a1 →
    ∃ v, exec .pget u = .next v ∧ v.r0.toNat = s.a2.toNat % 2 ^ 24 ∧ v.err = 0

/-- Rules R25, R135: one step changes the grid in two ways only, a PSET within bounds and a reset. -/
def Obligations.GridChangesByPsetOrResetOnly : Prop :=
  ∀ s t : State, step s = .next t → t.grid ≠ s.grid →
    (∃ w rest i, s.drv = .idle ∧ s.host = .write 3 w :: rest ∧ decode w = .ok .pset ∧
      i.val = s.a1.toInt * 12 + s.a0.toInt ∧ t.grid = s.grid.set i (s.a2.extractLsb' 0 24)) ∨
    ((s.drv = .idle ∧ (∃ rest, s.host = .reset :: rest) ∨
      s.drv ≠ .idle ∧ (∃ rest, s.transport = .reset :: rest)) ∧ ∀ j, t.grid.get j = 0)

/-! ## GammaTable -/

/-- Rule R140, whole: GAMMA looks up `A0[7:0]`; index 0 gives 0 in every admissible table. -/
def Obligations.GammaResult : Prop :=
  decode 0x0000000A = .ok .gamma ∧
  ∀ s : State,
    exec .gamma s = .next { s with
      r0 := (s.params.gammaTable.get ⟨s.a0.toNat % 256, Nat.mod_lt _ (by decide)⟩).setWidth 32
      err := 0, fstep := 0, drv := .idle } ∧
    (s.params.wf → s.a0.toNat % 256 = 0 → ∃ t, exec .gamma s = .next t ∧ t.r0 = 0)

/-- Rules R141, R142: in every admissible table a brighter byte is never corrected to a darker one, 0 stays 0, and
entry 255 is the greatest. -/
def Obligations.GammaIsMonotone : Prop :=
  ∀ p : Params, p.wf →
    (∀ a b : Byte, a.toNat ≤ b.toNat → (gammaLookup p a).toNat ≤ (gammaLookup p b).toNat) ∧
    gammaLookup p 0 = 0 ∧ ∀ a : Byte, (gammaLookup p a).toNat ≤ (gammaLookup p 255).toNat

/-- Rules R141 and R5: the machine's own open parameters are admissible, whatever the free values are; the way the
table is made from them is the model's (log entry 1). -/
def Obligations.PlatformParametersAreAdmissible : Prop := Params.platform.wf

/-- Rules R29, R30, R31: no step changes the tables or the transport constants. -/
def Obligations.ParametersNeverChange : Prop :=
  ∀ s t : State, step s = .next t → t.params = s.params

/-! ## DisplayDriver -/

/-- Rules R151 and R152: the bytes of the flattened buffer, cell by cell in row-major order, red then green then
blue, and the bytes of the corrected buffer. -/
def Obligations.FrameBufferBytes : Prop :=
  ∀ (g : Table Color Config.nCell) (p : Params) (col row : Nat) (hc : col < 12) (hr : row < 6),
    let cell : Nat := (g.get ⟨row * 12 + col, by simp only [Config.nCell]; omega⟩).toNat
    ((flatten g).get ⟨3 * (row * 12 + col) + 0, by simp only [Config.fbLen]; omega⟩).toNat = cell / 65536 ∧
    ((flatten g).get ⟨3 * (row * 12 + col) + 1, by simp only [Config.fbLen]; omega⟩).toNat = cell / 256 % 256 ∧
    ((flatten g).get ⟨3 * (row * 12 + col) + 2, by simp only [Config.fbLen]; omega⟩).toNat = cell % 256 ∧
    ∀ (fb : Buffer) (j : Fin Config.fbLen),
      (gammaCorrect p fb).get j = p.gammaTable.get ⟨(fb.get j).toNat, (fb.get j).isLt⟩

/-- Rules R150, R153 to R156: SHOW answered with success four times sends the four operations in their order, flips
AF and completes with OK. Nothing is said of what FB and CB hold once it has ended. -/
def Obligations.ShowSucceeds : Prop :=
  decode 0x0000000B = .ok .showFrame ∧
  ∀ (s : State) (rest : List TransportEvent),
    s.transport = .answer true :: .answer true :: .answer true :: .answer true :: rest →
    let t : Byte := if s.af = 0 then 0x01 else 0x00
    ∃ fb cb : Buffer, exec .showFrame s = .next { s with
      fb := fb
      cb := cb
      wire := s.wire ++
        [⟨.writeByte s.params.devAddr s.params.regBankSel t, true⟩,
         ⟨.writeBuffer s.params.devAddr s.params.regColor (gammaCorrect s.params (flatten s.grid)), true⟩,
         ⟨.writeByte s.params.devAddr s.params.regBankSel s.params.bankConfig, true⟩,
         ⟨.writeByte s.params.devAddr s.params.regFrameSel t, true⟩]
      af := s.af ^^^ 1
      err := 0, fstep := 0, drv := .idle
      transport := rest }

/-- Rule R157: SHOW answered with failure at operation `k`, 1 to 4: the later operations are not issued, AF stays,
ERR is 2 and FSTEP is `k`. Nothing is said of what FB and CB hold once it has ended. -/
def Obligations.ShowFailsAtEachOperation : Prop :=
  ∀ (s : State) (k : Nat) (rest : List TransportEvent), 1 ≤ k → k ≤ 4 →
    s.transport = List.replicate (k - 1) (.answer true) ++ .answer false :: rest →
    let t : Byte := if s.af = 0 then 0x01 else 0x00
    let ops : List TransportOp :=
      [.writeByte s.params.devAddr s.params.regBankSel t,
       .writeBuffer s.params.devAddr s.params.regColor (gammaCorrect s.params (flatten s.grid)),
       .writeByte s.params.devAddr s.params.regBankSel s.params.bankConfig,
       .writeByte s.params.devAddr s.params.regFrameSel t]
    ∃ fb cb : Buffer, exec .showFrame s = .next { s with
      fb := fb
      cb := cb
      wire := s.wire ++ ((ops.take (k - 1)).map fun op => ⟨op, true⟩) ++
        ((ops.drop (k - 1)).take 1).map fun op => ⟨op, false⟩
      err := 2, fstep := BitVec.ofNat 3 k, drv := .idle
      transport := rest }

/-- Rule R160: with no answer the block stays in Transferring with its K, for any number of steps; only a reset ends
it; and a SHOW can be left so after 0, 1, 2 or 3 answered operations. -/
def Obligations.UnansweredTransferHangs : Prop :=
  (∀ (s : State) (k : OpNum), s.drv = .transferring k → s.transport = [] →
    ∀ n, Sys2Proof.core.run n s = .next s) ∧
  (∀ (s : State) (k : OpNum) (rest : List TransportEvent), s.drv = .transferring k → s.transport = .reset :: rest →
    ∃ t, step s = .next t ∧ t.drv = .idle) ∧
  (∀ (s : State) (n : Nat), n ≤ 3 → s.transport = List.replicate n (.answer true) →
    ∃ t k, exec .showFrame s = .next t ∧ t.drv = .transferring k ∧ k.number.toNat = n + 1 ∧
      t.transport = [] ∧ t.af = s.af ∧ t.err = s.err ∧ t.fstep = s.fstep)

/-- Rule R158, the table row by row, as steps of the machine. The start row is stated with no answer ready: with
answers ready the model takes them in the same step (log entry 3), which `ShowIsItsSmallSteps` relates. That FB and CB
stay as they are in every later row is the model's (log entry 5). -/
def Obligations.TransferTable : Prop :=
  ∀ s : State,
    let t : Byte := if s.af = 0 then 0x01 else 0x00
    let p := s.params
    (∀ rest, s.drv = .idle → s.host = .write 3 0x0000000B :: rest → s.transport = [] →
      step s = .next { s with
        host := rest, fb := flatten s.grid, cb := gammaCorrect p (flatten s.grid)
        drv := .transferring .bankSelect }) ∧
    (∀ rest, s.drv = .transferring .bankSelect → s.transport = .answer true :: rest →
      step s = .next { s with
        transport := rest, wire := s.wire ++ [⟨.writeByte p.devAddr p.regBankSel t, true⟩]
        drv := .transferring .bufferWrite }) ∧
    (∀ rest, s.drv = .transferring .bufferWrite → s.transport = .answer true :: rest →
      step s = .next { s with
        transport := rest, wire := s.wire ++ [⟨.writeBuffer p.devAddr p.regColor s.cb, true⟩]
        drv := .transferring .configSelect }) ∧
    (∀ rest, s.drv = .transferring .configSelect → s.transport = .answer true :: rest →
      step s = .next { s with
        transport := rest, wire := s.wire ++ [⟨.writeByte p.devAddr p.regBankSel p.bankConfig, true⟩]
        drv := .transferring .frameSelect }) ∧
    (∀ rest, s.drv = .transferring .frameSelect → s.transport = .answer true :: rest →
      step s = .next { s with
        transport := rest, wire := s.wire ++ [⟨.writeByte p.devAddr p.regFrameSel t, true⟩]
        af := s.af ^^^ 1, err := 0, fstep := 0, drv := .idle }) ∧
    (∀ k rest, s.drv = .transferring k → s.transport = .answer false :: rest →
      step s = .next { s with
        transport := rest
        wire := s.wire ++ [⟨match k with
          | .bankSelect => .writeByte p.devAddr p.regBankSel t
          | .bufferWrite => .writeBuffer p.devAddr p.regColor s.cb
          | .configSelect => .writeByte p.devAddr p.regBankSel p.bankConfig
          | .frameSelect => .writeByte p.devAddr p.regFrameSel t, false⟩]
        err := 2, fstep := k.number, drv := .idle }) ∧
    (∀ k, s.drv = .transferring k → s.transport = [] → step s = .next s) ∧
    (∀ k rest, s.drv = .transferring k → s.transport = .reset :: rest →
      ∃ u, step s = .next u ∧ u.drv = .idle ∧ u.wire = s.wire)

/-- Rules R158, R159: SHOW in one piece is its start followed by at most four small steps, and it stops only where
the driver is idle again or no answer is ready. That SHOW takes all the answers that are ready in the step of its CMD
write is the model's choice (log entry 3). -/
def Obligations.ShowIsItsSmallSteps : Prop :=
  ∀ s : State, ∃ n t, n ≤ 4 ∧ exec .showFrame s = .next t ∧
    Sys2Proof.core.run n { s with
      fb := flatten s.grid, cb := gammaCorrect s.params (flatten s.grid), drv := .transferring .bankSelect } = .next t ∧
    (t.drv = .idle ∨ ∀ ok rest, t.transport ≠ .answer ok :: rest) ∧
    ∃ answers, s.transport = answers ++ t.transport ∧ answers.length = n

/-- Rule R161: a failed SHOW leaves AF and the grid as they were, so the next one targets the same bank, sends the same
bytes, and can succeed. -/
def Obligations.RetryTargetsTheSameBank : Prop :=
  ∀ (s : State) (k : Nat) (rest : List TransportEvent), 1 ≤ k → k ≤ 4 →
    s.transport = List.replicate (k - 1) (.answer true) ++
      .answer false :: .answer true :: .answer true :: .answer true :: .answer true :: rest →
    ∃ t u, exec .showFrame s = .next t ∧ exec .showFrame t = .next u ∧ t.af = s.af ∧ t.grid = s.grid ∧
      t.err = 2 ∧
      u.err = 0 ∧ u.af = s.af ^^^ 1 ∧
      u.wire = t.wire ++ (showRequests s.params (if s.af = 0 then 0x01 else 0x00)
        (gammaCorrect s.params (flatten s.grid))).map fun op => ⟨op, true⟩

/-- Rule R163: two successful SHOWs of one grid send the same bytes to the two banks in turn, and leave the grid. -/
def Obligations.TwoShowsAlternateTheBanks : Prop :=
  ∀ (s : State) (rest : List TransportEvent), s.transport = List.replicate 8 (.answer true) ++ rest →
    ∃ t u, exec .showFrame s = .next t ∧ exec .showFrame t = .next u ∧ u.grid = s.grid ∧ u.af = s.af ∧
      u.wire = s.wire ++
        ((showRequests s.params (if s.af = 0 then 0x01 else 0x00) (gammaCorrect s.params (flatten s.grid)) ++
          showRequests s.params (if s.af = 0 then 0x00 else 0x01) (gammaCorrect s.params (flatten s.grid))).map
            fun op => ⟨op, true⟩)

/-- Rules R143, R155, R157, R159, R196: the transport only ever sees beginnings of SHOWs, every byte corrected. Every
step keeps it, from every state that has it. -/
def Obligations.WireHoldsOnlyShows : Prop :=
  ∀ s t : State, s.WireInv → step s = .next t → t.WireInv

/-- The wire invariant holds at reset. -/
def Obligations.WireInvariantAtReset : Prop := State.reset.WireInv

/-! ## Errors, state and reset -/

/-- Rule R37: the invariant every step keeps. -/
def Obligations.StepKeepsTheStateInvariant : Prop :=
  ∀ s t : State, s.Inv → step s = .next t → t.Inv

/-- Rule R37 at reset. -/
def Obligations.StateInvariantAtReset : Prop := State.reset.Inv

/-- Rules R170, R175: which completion codes each command can end with, and FSTEP beside them. A SHOW that waits for
the transport has not ended. -/
def Obligations.CompletionCodesOfEachCommand : Prop :=
  ∀ (i : Instr) (s t : State), i.wf = true → exec i s = .next t → t.drv = .idle →
    (t.err = 0 ∨ (t.err = 1 ∧ (i = .pset ∨ i = .pget)) ∨ (t.err = 2 ∧ i = .showFrame)) ∧
    (t.err ≠ 2 → t.fstep = 0) ∧ (t.err = 2 → 1 ≤ t.fstep.toNat ∧ t.fstep.toNat ≤ 4)

/-- Rules R176, R177: a command that ends with an error changes no register, no cell and not AF. -/
def Obligations.ErrorsArePrecise : Prop :=
  ∀ (i : Instr) (s t : State), exec i s = .next t → t.drv = .idle → t.err ≠ 0 →
    t.a0 = s.a0 ∧ t.a1 = s.a1 ∧ t.a2 = s.a2 ∧ t.r0 = s.r0 ∧ t.r1 = s.r1 ∧ t.grid = s.grid ∧ t.af = s.af ∧
    (i ≠ .showFrame → t.wire = s.wire)

/-- Rules R21, R22, R25, R26, R28, R34: what no command writes, and the one command that writes each of the rest. -/
def Obligations.EachStateHasItsOneWriter : Prop :=
  ∀ (i : Instr) (s t : State), exec i s = .next t →
    (t.a0 = s.a0 ∧ t.a1 = s.a1 ∧ t.a2 = s.a2) ∧
    (t.params = s.params ∧ t.host = s.host ∧ t.replies = s.replies ∧ t.draws = s.draws) ∧
    (i ≠ .dims → t.r1 = s.r1) ∧
    (i = .pset ∨ i = .showFrame → t.r0 = s.r0) ∧
    (i ≠ .pset → t.grid = s.grid) ∧
    (i ≠ .showFrame → t.af = s.af ∧ t.fb = s.fb ∧ t.cb = s.cb ∧ t.wire = s.wire ∧ t.transport = s.transport ∧
      t.drv = .idle)

/-- Rule R84: registers and bits a command ignores do not change what it does. The two runs differ in the operand
registers alone, and agree on the bits the command reads. -/
def Obligations.IgnoredOperandsDoNotMatter : Prop :=
  ∀ (i : Instr) (s t : State) (x y z : Word), exec i s = .next t →
    (match i with
      | .packrgb => x &&& 0xFF = s.a0 &&& 0xFF ∧ y &&& 0xFF = s.a1 &&& 0xFF ∧ z &&& 0xFF = s.a2 &&& 0xFF
      | .unpackr | .unpackg | .unpackb => x &&& 0xFFFFFF = s.a0 &&& 0xFFFFFF
      | .hsl => x = s.a0 ∧ y = s.a1 ∧ z = s.a2
      | .pset => x = s.a0 ∧ y = s.a1 ∧ z &&& 0xFFFFFF = s.a2 &&& 0xFFFFFF
      | .pget => x = s.a0 ∧ y = s.a1
      | .gamma => x &&& 0xFF = s.a0 &&& 0xFF
      | .named _ | .dims | .showFrame => True) →
    exec i { s with a0 := x, a1 := y, a2 := z } = .next { t with a0 := x, a1 := y, a2 := z }

/-- Rule R191: the state after reset, with the host's view of it and the constants as the platform gives them; what FB
and CB hold is not stated. -/
def Obligations.StateAfterReset : Prop :=
  State.reset.a0 = 0 ∧ State.reset.a1 = 0 ∧ State.reset.a2 = 0 ∧ State.reset.r0 = 0 ∧ State.reset.r1 = 0 ∧
  State.reset.err = 0 ∧ State.reset.fstep = 0 ∧ State.reset.af = 0 ∧ State.reset.drv = .idle ∧
  State.reset.wire = [] ∧ (∀ j, State.reset.grid.get j = 0) ∧ hostRead 6 State.reset = 0x00000000 ∧
  State.reset.params = Params.platform

/-- A reset during a SHOW ends it at once (rule R192: nothing further is sent, what was answered stays in WIRE), and the
block is as after reset (rule R191); a reset between host accesses does the same (rules R190, R191). The model's choice
in it: a reset arrives as an event of either input queue, and what is still queued at the two ports stays (the clauses
on `transport` and `host`, log entry 8); the record of replies stays (the clause on `replies`, log entry 4); and the
constants are the state field `params` (log entry 1). -/
def Obligations.ResetEndsATransfer : Prop :=
  ∀ (s : State) (rest : List TransportEvent) (restH : List HostEvent),
    ((∃ k, s.drv = .transferring k) ∧ s.transport = .reset :: rest ∧ s.host = restH) ∨
    (s.drv = .idle ∧ s.host = .reset :: restH ∧ s.transport = rest) →
    ∃ t, step s = .next t ∧
      t.a0 = 0 ∧ t.a1 = 0 ∧ t.a2 = 0 ∧ t.r0 = 0 ∧ t.r1 = 0 ∧ t.err = 0 ∧ t.fstep = 0 ∧ t.af = 0 ∧
      (∀ j, t.grid.get j = 0) ∧ t.drv = .idle ∧ t.wire = s.wire ∧ t.params = s.params ∧
      t.transport = rest ∧ t.host = restH ∧ t.replies = s.replies ∧ hostRead 6 t = 0x00000000
end

