-- ==== Sys2Proof/Laws/Decode.lean ====
section
/-! SUPPORT. How to reason about the decoder: a word with non-zero high bits is rejected, and any other word is a byte
with 24 zero bits above it, so that the rest is a question about 256 words. -/

namespace Sys2Proof

/-- Bits 31:8 of a legal word are zero (`30_encoding.md` rule R88). -/
theorem decode_nonzeroHighBits {w : Word} (h : fieldZero w ≠ 0) : decode w = .error .nonzeroHighBits := by
  unfold decode
  rw [if_pos h]

theorem decode_ok_fieldZero {w : Word} {i : Instr} (h : decode w = .ok i) : fieldZero w = 0 := by
  by_contra hz
  rw [decode_nonzeroHighBits hz] at h
  cases h

/-- A word whose field zero is 0 is its low byte. -/
theorem eq_lowByte_of_fieldZero {w : Word} (h : fieldZero w = 0) : w = 0#24 ++ w.extractLsb' 0 8 := by
  have hw : w.toNat / 256 % 2 ^ 24 = 0 := by
    simpa [fieldZero, BitVec.extractLsb'_toNat, Nat.shiftRight_eq_div_pow] using congrArg BitVec.toNat h
  apply BitVec.eq_of_toNat_eq
  rw [BitVec.toNat_append]
  simp only [BitVec.toNat_ofNat, Nat.zero_mod, Nat.zero_shiftLeft, Nat.zero_or, BitVec.extractLsb'_toNat, Nat.shiftRight_zero]
  omega

/-- A property of all command words with field zero 0 is a property of 256 bytes. -/
theorem forall_lowByte {P : Word → Prop} (h : ∀ b : Byte, P (0#24 ++ b)) {w : Word} (hz : fieldZero w = 0) : P w := by
  rw [eq_lowByte_of_fieldZero hz]
  exact h _

end Sys2Proof
end

