-- ==== Sys2Proof/Laws/State.lean ====
section
/-! SUPPORT. One lemma for each field after each shared update of the state, so that no proof unfolds an update. -/

namespace Sys2Proof.Machine.State

variable (s : State)

@[simp] theorem complete_a0 : s.complete.a0 = s.a0 := rfl
@[simp] theorem complete_a1 : s.complete.a1 = s.a1 := rfl
@[simp] theorem complete_a2 : s.complete.a2 = s.a2 := rfl
@[simp] theorem complete_r0 : s.complete.r0 = s.r0 := rfl
@[simp] theorem complete_r1 : s.complete.r1 = s.r1 := rfl
@[simp] theorem complete_err : s.complete.err = 0 := rfl
@[simp] theorem complete_fstep : s.complete.fstep = 0 := rfl
@[simp] theorem complete_af : s.complete.af = s.af := rfl
@[simp] theorem complete_grid : s.complete.grid = s.grid := rfl
@[simp] theorem complete_drv : s.complete.drv = .idle := rfl
@[simp] theorem complete_fb : s.complete.fb = s.fb := rfl
@[simp] theorem complete_cb : s.complete.cb = s.cb := rfl
@[simp] theorem complete_wire : s.complete.wire = s.wire := rfl
@[simp] theorem complete_params : s.complete.params = s.params := rfl
@[simp] theorem complete_host : s.complete.host = s.host := rfl
@[simp] theorem complete_transport : s.complete.transport = s.transport := rfl
@[simp] theorem complete_replies : s.complete.replies = s.replies := rfl
@[simp] theorem complete_draws : s.complete.draws = s.draws := rfl

@[simp] theorem raise_a0 (e : ErrKind) : (s.raise e).a0 = s.a0 := rfl
@[simp] theorem raise_a1 (e : ErrKind) : (s.raise e).a1 = s.a1 := rfl
@[simp] theorem raise_a2 (e : ErrKind) : (s.raise e).a2 = s.a2 := rfl
@[simp] theorem raise_r0 (e : ErrKind) : (s.raise e).r0 = s.r0 := rfl
@[simp] theorem raise_r1 (e : ErrKind) : (s.raise e).r1 = s.r1 := rfl
@[simp] theorem raise_err (e : ErrKind) : (s.raise e).err = e.code := rfl
@[simp] theorem raise_fstep (e : ErrKind) : (s.raise e).fstep = e.failedStep := rfl
@[simp] theorem raise_af (e : ErrKind) : (s.raise e).af = s.af := rfl
@[simp] theorem raise_grid (e : ErrKind) : (s.raise e).grid = s.grid := rfl
@[simp] theorem raise_drv (e : ErrKind) : (s.raise e).drv = .idle := rfl
@[simp] theorem raise_fb (e : ErrKind) : (s.raise e).fb = s.fb := rfl
@[simp] theorem raise_cb (e : ErrKind) : (s.raise e).cb = s.cb := rfl
@[simp] theorem raise_wire (e : ErrKind) : (s.raise e).wire = s.wire := rfl
@[simp] theorem raise_params (e : ErrKind) : (s.raise e).params = s.params := rfl
@[simp] theorem raise_host (e : ErrKind) : (s.raise e).host = s.host := rfl
@[simp] theorem raise_transport (e : ErrKind) : (s.raise e).transport = s.transport := rfl
@[simp] theorem raise_replies (e : ErrKind) : (s.raise e).replies = s.replies := rfl
@[simp] theorem raise_draws (e : ErrKind) : (s.raise e).draws = s.draws := rfl

@[simp] theorem writeR0_a0 (v : Word) : (s.writeR0 v).a0 = s.a0 := rfl
@[simp] theorem writeR0_a1 (v : Word) : (s.writeR0 v).a1 = s.a1 := rfl
@[simp] theorem writeR0_a2 (v : Word) : (s.writeR0 v).a2 = s.a2 := rfl
@[simp] theorem writeR0_r0 (v : Word) : (s.writeR0 v).r0 = v := rfl
@[simp] theorem writeR0_r1 (v : Word) : (s.writeR0 v).r1 = s.r1 := rfl
@[simp] theorem writeR0_err (v : Word) : (s.writeR0 v).err = s.err := rfl
@[simp] theorem writeR0_fstep (v : Word) : (s.writeR0 v).fstep = s.fstep := rfl
@[simp] theorem writeR0_af (v : Word) : (s.writeR0 v).af = s.af := rfl
@[simp] theorem writeR0_grid (v : Word) : (s.writeR0 v).grid = s.grid := rfl
@[simp] theorem writeR0_drv (v : Word) : (s.writeR0 v).drv = s.drv := rfl
@[simp] theorem writeR0_fb (v : Word) : (s.writeR0 v).fb = s.fb := rfl
@[simp] theorem writeR0_cb (v : Word) : (s.writeR0 v).cb = s.cb := rfl
@[simp] theorem writeR0_wire (v : Word) : (s.writeR0 v).wire = s.wire := rfl
@[simp] theorem writeR0_params (v : Word) : (s.writeR0 v).params = s.params := rfl
@[simp] theorem writeR0_host (v : Word) : (s.writeR0 v).host = s.host := rfl
@[simp] theorem writeR0_transport (v : Word) : (s.writeR0 v).transport = s.transport := rfl
@[simp] theorem writeR0_replies (v : Word) : (s.writeR0 v).replies = s.replies := rfl
@[simp] theorem writeR0_draws (v : Word) : (s.writeR0 v).draws = s.draws := rfl

@[simp] theorem writeR1_a0 (v : Word) : (s.writeR1 v).a0 = s.a0 := rfl
@[simp] theorem writeR1_a1 (v : Word) : (s.writeR1 v).a1 = s.a1 := rfl
@[simp] theorem writeR1_a2 (v : Word) : (s.writeR1 v).a2 = s.a2 := rfl
@[simp] theorem writeR1_r0 (v : Word) : (s.writeR1 v).r0 = s.r0 := rfl
@[simp] theorem writeR1_r1 (v : Word) : (s.writeR1 v).r1 = v := rfl
@[simp] theorem writeR1_err (v : Word) : (s.writeR1 v).err = s.err := rfl
@[simp] theorem writeR1_fstep (v : Word) : (s.writeR1 v).fstep = s.fstep := rfl
@[simp] theorem writeR1_af (v : Word) : (s.writeR1 v).af = s.af := rfl
@[simp] theorem writeR1_grid (v : Word) : (s.writeR1 v).grid = s.grid := rfl
@[simp] theorem writeR1_drv (v : Word) : (s.writeR1 v).drv = s.drv := rfl
@[simp] theorem writeR1_fb (v : Word) : (s.writeR1 v).fb = s.fb := rfl
@[simp] theorem writeR1_cb (v : Word) : (s.writeR1 v).cb = s.cb := rfl
@[simp] theorem writeR1_wire (v : Word) : (s.writeR1 v).wire = s.wire := rfl
@[simp] theorem writeR1_params (v : Word) : (s.writeR1 v).params = s.params := rfl
@[simp] theorem writeR1_host (v : Word) : (s.writeR1 v).host = s.host := rfl
@[simp] theorem writeR1_transport (v : Word) : (s.writeR1 v).transport = s.transport := rfl
@[simp] theorem writeR1_replies (v : Word) : (s.writeR1 v).replies = s.replies := rfl
@[simp] theorem writeR1_draws (v : Word) : (s.writeR1 v).draws = s.draws := rfl

@[simp] theorem recordWire_a0 (op : TransportOp) (ok : Bool) : (s.recordWire op ok).a0 = s.a0 := rfl
@[simp] theorem recordWire_a1 (op : TransportOp) (ok : Bool) : (s.recordWire op ok).a1 = s.a1 := rfl
@[simp] theorem recordWire_a2 (op : TransportOp) (ok : Bool) : (s.recordWire op ok).a2 = s.a2 := rfl
@[simp] theorem recordWire_r0 (op : TransportOp) (ok : Bool) : (s.recordWire op ok).r0 = s.r0 := rfl
@[simp] theorem recordWire_r1 (op : TransportOp) (ok : Bool) : (s.recordWire op ok).r1 = s.r1 := rfl
@[simp] theorem recordWire_err (op : TransportOp) (ok : Bool) : (s.recordWire op ok).err = s.err := rfl
@[simp] theorem recordWire_fstep (op : TransportOp) (ok : Bool) : (s.recordWire op ok).fstep = s.fstep := rfl
@[simp] theorem recordWire_af (op : TransportOp) (ok : Bool) : (s.recordWire op ok).af = s.af := rfl
@[simp] theorem recordWire_grid (op : TransportOp) (ok : Bool) : (s.recordWire op ok).grid = s.grid := rfl
@[simp] theorem recordWire_drv (op : TransportOp) (ok : Bool) : (s.recordWire op ok).drv = s.drv := rfl
@[simp] theorem recordWire_fb (op : TransportOp) (ok : Bool) : (s.recordWire op ok).fb = s.fb := rfl
@[simp] theorem recordWire_cb (op : TransportOp) (ok : Bool) : (s.recordWire op ok).cb = s.cb := rfl
@[simp] theorem recordWire_wire (op : TransportOp) (ok : Bool) : (s.recordWire op ok).wire = s.wire ++ [⟨op, ok⟩] := rfl
@[simp] theorem recordWire_params (op : TransportOp) (ok : Bool) : (s.recordWire op ok).params = s.params := rfl
@[simp] theorem recordWire_host (op : TransportOp) (ok : Bool) : (s.recordWire op ok).host = s.host := rfl
@[simp] theorem recordWire_transport (op : TransportOp) (ok : Bool) : (s.recordWire op ok).transport = s.transport := rfl
@[simp] theorem recordWire_replies (op : TransportOp) (ok : Bool) : (s.recordWire op ok).replies = s.replies := rfl
@[simp] theorem recordWire_draws (op : TransportOp) (ok : Bool) : (s.recordWire op ok).draws = s.draws := rfl

@[simp] theorem answerRead_a0 (n : BitVec 3) : (s.answerRead n).a0 = s.a0 := rfl
@[simp] theorem answerRead_a1 (n : BitVec 3) : (s.answerRead n).a1 = s.a1 := rfl
@[simp] theorem answerRead_a2 (n : BitVec 3) : (s.answerRead n).a2 = s.a2 := rfl
@[simp] theorem answerRead_r0 (n : BitVec 3) : (s.answerRead n).r0 = s.r0 := rfl
@[simp] theorem answerRead_r1 (n : BitVec 3) : (s.answerRead n).r1 = s.r1 := rfl
@[simp] theorem answerRead_err (n : BitVec 3) : (s.answerRead n).err = s.err := rfl
@[simp] theorem answerRead_fstep (n : BitVec 3) : (s.answerRead n).fstep = s.fstep := rfl
@[simp] theorem answerRead_af (n : BitVec 3) : (s.answerRead n).af = s.af := rfl
@[simp] theorem answerRead_grid (n : BitVec 3) : (s.answerRead n).grid = s.grid := rfl
@[simp] theorem answerRead_drv (n : BitVec 3) : (s.answerRead n).drv = s.drv := rfl
@[simp] theorem answerRead_fb (n : BitVec 3) : (s.answerRead n).fb = s.fb := rfl
@[simp] theorem answerRead_cb (n : BitVec 3) : (s.answerRead n).cb = s.cb := rfl
@[simp] theorem answerRead_wire (n : BitVec 3) : (s.answerRead n).wire = s.wire := rfl
@[simp] theorem answerRead_params (n : BitVec 3) : (s.answerRead n).params = s.params := rfl
@[simp] theorem answerRead_host (n : BitVec 3) : (s.answerRead n).host = s.host := rfl
@[simp] theorem answerRead_transport (n : BitVec 3) : (s.answerRead n).transport = s.transport := rfl
@[simp] theorem answerRead_replies (n : BitVec 3) : (s.answerRead n).replies = s.replies ++ [⟨n, hostRead n s⟩] := rfl
@[simp] theorem answerRead_draws (n : BitVec 3) : (s.answerRead n).draws = s.draws := rfl

@[simp] theorem resetEvent_a0 : s.resetEvent.a0 = 0 := rfl
@[simp] theorem resetEvent_a1 : s.resetEvent.a1 = 0 := rfl
@[simp] theorem resetEvent_a2 : s.resetEvent.a2 = 0 := rfl
@[simp] theorem resetEvent_r0 : s.resetEvent.r0 = 0 := rfl
@[simp] theorem resetEvent_r1 : s.resetEvent.r1 = 0 := rfl
@[simp] theorem resetEvent_err : s.resetEvent.err = 0 := rfl
@[simp] theorem resetEvent_fstep : s.resetEvent.fstep = 0 := rfl
@[simp] theorem resetEvent_af : s.resetEvent.af = 0 := rfl
@[simp] theorem resetEvent_grid : s.resetEvent.grid = .replicate Config.nCell 0 := rfl
@[simp] theorem resetEvent_drv : s.resetEvent.drv = .idle := rfl
@[simp] theorem resetEvent_fb : s.resetEvent.fb = Config.scratchBuffer s.draws := rfl
@[simp] theorem resetEvent_cb : s.resetEvent.cb = Config.scratchBuffer (s.draws + 1) := rfl
@[simp] theorem resetEvent_wire : s.resetEvent.wire = s.wire := rfl
@[simp] theorem resetEvent_params : s.resetEvent.params = s.params := rfl
@[simp] theorem resetEvent_host : s.resetEvent.host = s.host := rfl
@[simp] theorem resetEvent_transport : s.resetEvent.transport = s.transport := rfl
@[simp] theorem resetEvent_replies : s.resetEvent.replies = s.replies := rfl
@[simp] theorem resetEvent_draws : s.resetEvent.draws = s.draws + 2 := rfl

end Sys2Proof.Machine.State
end

