-- ==== Sys2Proof/Laws/Table.lean ====
section
/-! SUPPORT. What the operations on fixed-length arrays do to an element. -/

namespace Sys2Proof.Table

variable {α β : Type} {n : Nat}

theorem ext_get {t u : Table α n} (h : ∀ i : Fin n, t.get i = u.get i) : t = u := by
  obtain ⟨l, hl⟩ := t
  obtain ⟨m, hm⟩ := u
  have hlm : l = m := by
    apply List.ext_getElem (by omega)
    intro i h1 h2
    simpa [get] using h ⟨i, by omega⟩
  subst hlm
  rfl

@[simp] theorem get_set_same (t : Table α n) (i : Fin n) (a : α) : (t.set i a).get i = a := by
  simp [get, set]

theorem get_set_ne (t : Table α n) {i j : Fin n} (a : α) (h : i ≠ j) : (t.set i a).get j = t.get j := by
  have : i.val ≠ j.val := fun e => h (Fin.ext e)
  simp [get, set, this]

@[simp] theorem get_tabulate (f : Fin n → α) (i : Fin n) : (tabulate f).get i = f i := by
  simp [get, tabulate]

@[simp] theorem get_map (f : α → β) (t : Table α n) (i : Fin n) : (t.map f).get i = f (t.get i) := by
  simp [get, map]

@[simp] theorem get_replicate (a : α) (i : Fin n) : (replicate n a).get i = a := by
  simp [get, replicate]

end Sys2Proof.Table
end

