-- ==== Sys2Proof/Laws/Ops.lean ====
section
/-! SUPPORT. What the shared grid and codec operations do, said once. -/

namespace Sys2Proof.Machine

/-- The bounds as numbers: 12 columns, 6 rows (`00_scope.md` rule R5). -/
theorem inBounds_iff {c r : Int} : inBounds c r ↔ 0 ≤ c ∧ c < 12 ∧ 0 ≤ r ∧ r < 6 := Iff.rfl

/-- Different in-bounds pairs are different cells (`41_pixelgrid.md` rule R133). -/
theorem cellIndex_inj {c r c' r' : Int} {h : inBounds c r} {h' : inBounds c' r'}
    (e : cellIndex c r h = cellIndex c' r' h') : c = c' ∧ r = r' := by
  have b := inBounds_iff.mp h
  have b' := inBounds_iff.mp h'
  have e : (r * 12 + c).toNat = (r' * 12 + c').toNat := congrArg Fin.val e
  omega

theorem gridRead_inBounds {c r : Int} (h : inBounds c r) (s : State) :
    gridRead c r s = some (s.grid.get (cellIndex c r h)) := by
  simp only [gridRead, dif_pos h]

theorem gridRead_outside {c r : Int} (h : ¬ inBounds c r) (s : State) : gridRead c r s = none := by
  simp only [gridRead, dif_neg h]

theorem gridWrite_inBounds {c r : Int} (h : inBounds c r) (v : Color) (s : State) :
    gridWrite c r v s = some { s with grid := s.grid.set (cellIndex c r h) v } := by
  simp only [gridWrite, dif_pos h]

theorem gridWrite_outside {c r : Int} (h : ¬ inBounds c r) (v : Color) (s : State) :
    gridWrite c r v s = none := by
  simp only [gridWrite, dif_neg h]

/-- Everything a grid write that happens can do. -/
theorem gridWrite_eq_some {c r : Int} {v : Color} {s t : State} (e : gridWrite c r v s = some t) :
    ∃ h : inBounds c r, t = { s with grid := s.grid.set (cellIndex c r h) v } := by
  by_cases h : inBounds c r
  · exact ⟨h, by simpa [gridWrite_inBounds h] using e.symm⟩
  · simp [gridWrite_outside h] at e

/-- Reading a cell depends on the grid alone. -/
theorem gridRead_congr {s t : State} (h : s.grid = t.grid) (c r : Int) : gridRead c r s = gridRead c r t := by
  simp only [gridRead, h]

/-- A read after a write to the same cell gives the value written. -/
theorem gridRead_gridWrite_same {c r : Int} {v : Color} {s t : State} (e : gridWrite c r v s = some t) :
    gridRead c r t = some v := by
  obtain ⟨h, rfl⟩ := gridWrite_eq_some e
  simp [gridRead_inBounds h]

/-- A write leaves every other cell alone. -/
theorem gridRead_gridWrite_other {c r c' r' : Int} {v : Color} {s t : State} (e : gridWrite c r v s = some t)
    (hne : ¬ (c' = c ∧ r' = r)) : gridRead c' r' t = gridRead c' r' s := by
  obtain ⟨h, rfl⟩ := gridWrite_eq_some e
  by_cases h' : inBounds c' r'
  · have : cellIndex c r h ≠ cellIndex c' r' h' := fun e => hne (by have := cellIndex_inj e; omega)
    simp [gridRead_inBounds h', Table.get_set_ne _ _ this]
  · simp [gridRead_outside h']

/-- The channels of a packed colour are its arguments, each modulo 256 (`40_colorcodec.md` rule R100). -/
theorem red_pack (r g b : Int) : red (pack r g b) = BitVec.ofInt 8 r := by
  ext i hi
  simp only [red, pack, BitVec.getElem_extractLsb', BitVec.getLsbD_append]
  simp [show ¬ 16 + i < 8 by omega, show ¬ 16 + i - 8 < 8 by omega, show 16 + i - 8 - 8 = i by omega,
    BitVec.getLsbD_eq_getElem hi]

theorem green_pack (r g b : Int) : green (pack r g b) = BitVec.ofInt 8 g := by
  ext i hi
  simp only [green, pack, BitVec.getElem_extractLsb', BitVec.getLsbD_append]
  simp [show ¬ 8 + i < 8 by omega, show 8 + i - 8 = i by omega, hi]

theorem blue_pack (r g b : Int) : blue (pack r g b) = BitVec.ofInt 8 b := by
  ext i hi
  simp only [blue, pack, BitVec.getElem_extractLsb', BitVec.getLsbD_append]
  simp [hi]

end Sys2Proof.Machine
end

