-- ==== Sys2Proof/Laws/Display.lean ====
section
/-! SUPPORT. The serializer byte by byte, and everything one transport answer can do. -/

namespace Sys2Proof.Machine

/-- Byte `j` of the flattened buffer (`43_display.md` rule R151). -/
theorem flatten_get (g : Table Color Config.nCell) (j : Fin Config.fbLen) (h : j.val / 3 < Config.nCell) :
    (flatten g).get j = channel (j.val % 3) (g.get ⟨j.val / 3, h⟩) := by
  simp only [flatten, Table.get_tabulate]

/-- Byte `j` of the corrected buffer (rule R152). -/
theorem gammaCorrect_get (p : Params) (b : Buffer) (j : Fin Config.fbLen) :
    (gammaCorrect p b).get j = gammaLookup p (b.get j) := by
  simp only [gammaCorrect, Table.get_map]

/-- The failure of operation `k` (rule R157). -/
@[simp] theorem transportAnswer_fail (k : OpNum) (s : State) :
    transportAnswer k false s = (s.recordWire (transportRequest k s) false).raise (.transportFailure k) := rfl

/-- The success of operation `k` (rule R158). -/
@[simp] theorem transportAnswer_ok (k : OpNum) (s : State) :
    transportAnswer k true s = transferNext k (s.recordWire (transportRequest k s) true) := rfl

theorem transferStep_idle {s : State} (h : s.drv = .idle) : transferStep s = s := by
  simp only [transferStep, h]

theorem transferStep_answer {s : State} {k : OpNum} {ok : Bool} {rest : List TransportEvent}
    (hd : s.drv = .transferring k) (ht : s.transport = .answer ok :: rest) :
    transferStep s = transportAnswer k ok { s with transport := rest } := by
  simp only [transferStep, hd, ht]

/-- Everything one row of the table of rule R158 can do. -/
theorem transferStep_cases (s : State) :
    transferStep s = s ∨
    ∃ k ok rest, s.drv = .transferring k ∧ s.transport = .answer ok :: rest ∧
      transferStep s = transportAnswer k ok { s with transport := rest } := by
  rcases hd : s.drv with _ | k
  · exact .inl (transferStep_idle hd)
  · rcases ht : s.transport with _ | ⟨e, rest⟩
    · exact .inl (by simp only [transferStep, hd, ht])
    · cases e with
      | answer ok => exact .inr ⟨k, ok, rest, rfl, rfl, transferStep_answer hd ht⟩
      | reset => exact .inl (by simp only [transferStep, hd, ht])

/-- What every row keeps, the whole transfer keeps. -/
theorem runTransfer_keeps {P : State → Prop} (h : ∀ s, P s → P (transferStep s)) :
    ∀ (n : Nat) (s : State), P s → P (runTransfer n s)
  | 0, _, hs => hs
  | n + 1, s, hs => runTransfer_keeps h n (transferStep s) (h s hs)

end Sys2Proof.Machine
end

