-- ==== Sys2Proof/Laws/PerInstr.lean ====
section
/-! SUPPORT. Per-instruction family `EncodingFields`: the fields of a command's word (`30_encoding.md` rule R81). -/

namespace Sys2Proof.Laws.EncodingFields

/-- The word of a command holds its opcode, its index and 24 zero bits, each in its place. -/
def Statement (i : Instr) : Prop :=
  fieldOpc (encode i) = i.opcode ∧ fieldIdx (encode i) = i.index ∧ fieldZero (encode i) = 0

theorem packrgb : Statement .packrgb := by unfold Statement; decide
theorem unpackr : Statement .unpackr := by unfold Statement; decide
theorem unpackg : Statement .unpackg := by unfold Statement; decide
theorem unpackb : Statement .unpackb := by unfold Statement; decide
theorem hsl : Statement .hsl := by unfold Statement; decide
theorem named (idx : BitVec 4) : Statement (.named idx) := by unfold Statement; revert idx; decide
theorem pset : Statement .pset := by unfold Statement; decide
theorem pget : Statement .pget := by unfold Statement; decide
theorem dims : Statement .dims := by unfold Statement; decide
theorem gamma : Statement .gamma := by unfold Statement; decide
theorem showFrame : Statement .showFrame := by unfold Statement; decide

end Sys2Proof.Laws.EncodingFields
end

