-- ==== Sys2Proof/Laws/Step.lean ====
section
/-! SUPPORT. Everything one step can do: later proofs cite this and unfold neither `step` nor the ports. -/

namespace Sys2Proof.Machine

/-- Everything a step can be, by the driver's state and the event at the open port. -/
theorem step_cases (s : State) :
    (s.drv = .idle ∧ s.host = [] ∧ step s = .next s) ∨
    (∃ e rest, s.drv = .idle ∧ s.host = e :: rest ∧ step s = hostEvent e { s with host := rest }) ∨
    (∃ k, s.drv = .transferring k ∧
      ((s.transport = [] ∧ step s = .next s) ∨
       (∃ rest, s.transport = .reset :: rest ∧ step s = .next { s with transport := rest }.resetEvent) ∨
       (∃ ok rest, s.transport = .answer ok :: rest ∧
          step s = .next (transportAnswer k ok { s with transport := rest })))) := by
  rcases hd : s.drv with _ | k
  · rcases hh : s.host with _ | ⟨e, rest⟩
    · exact .inl ⟨rfl, rfl, by simp only [step, hd, idleStep, hh]⟩
    · exact .inr (.inl ⟨e, rest, rfl, rfl, by simp only [step, hd, idleStep, hh]⟩)
  · refine .inr (.inr ⟨k, rfl, ?_⟩)
    rcases ht : s.transport with _ | ⟨e, rest⟩
    · exact .inl ⟨rfl, by simp only [step, hd, transferringStep, ht, transferStep]⟩
    · cases e with
      | answer ok => exact .inr (.inr ⟨ok, rest, rfl, by simp only [step, hd, transferringStep, ht, transferStep]⟩)
      | reset => exact .inr (.inl ⟨rest, rfl, by simp only [step, hd, transferringStep, ht]⟩)

/-- A host event at an idle block, as the step takes it. -/
theorem step_hostEvent {s : State} {e : HostEvent} {rest : List HostEvent} (hd : s.drv = .idle)
    (hh : s.host = e :: rest) : step s = hostEvent e { s with host := rest } := by
  simp only [step, hd, idleStep, hh]

/-- Everything a host write can be (`20_memory.md` rule R53). -/
theorem hostWrite_cases (n : BitVec 3) (w : Word) (s : State) :
    (n = 0 ∧ hostWrite n w s = .next { s with a0 := w }) ∨
    (n = 1 ∧ hostWrite n w s = .next { s with a1 := w }) ∨
    (n = 2 ∧ hostWrite n w s = .next { s with a2 := w }) ∨
    (n = 3 ∧ hostWrite n w s = runCommand w s) ∨
    (4 ≤ n.toNat ∧ hostWrite n w s = .next s) := by
  have : n = 0 ∨ n = 1 ∨ n = 2 ∨ n = 3 ∨ n = 4 ∨ n = 5 ∨ n = 6 ∨ n = 7 := by revert n; decide
  rcases this with rfl | rfl | rfl | rfl | rfl | rfl | rfl | rfl <;> simp [hostWrite, hostReg]

/-- Everything a write to CMD can be (rule R54). -/
theorem runCommand_cases (w : Word) (s : State) :
    (∃ i, decode w = .ok i ∧ runCommand w s = exec i s) ∨
    (∃ e, decode w = .error e ∧ runCommand w s = .next (s.raise .illegalCommand)) := by
  rcases h : decode w with e | i
  · exact .inr ⟨e, rfl, by simp only [runCommand, h]⟩
  · exact .inl ⟨i, rfl, by simp only [runCommand, h]⟩

theorem run_zero (s : State) : core.run 0 s = .next s := rfl

/-- A run goes on from where one step leads. -/
theorem run_succ {s t : State} (h : step s = .next t) (n : Nat) : core.run (n + 1) s = core.run n t := by
  have h : core.step s = .next t := h
  simp only [Host.Core.run, h]

/-- A state that steps to itself runs to itself. -/
theorem run_fixed {s : State} (h : step s = .next s) : ∀ n, core.run n s = .next s
  | 0 => rfl
  | n + 1 => (run_succ h n).trans (run_fixed h n)

end Sys2Proof.Machine
end

