-- ==== Sys2Proof/Tests/Slice0.lean ====
section
/-! SUPPORT. Checks of our own: command words and expected results written out from the spec (each test names the
vector of `95_test_vectors.md` or the rule it comes from), the smoke test of well-formedness, and for every statement
with hypotheses a concrete state and operands that meet them. -/

namespace Sys2Proof.Tests

open Sys2Proof.Machine

/-! ## Decoding (rule R82; E1 to E11) -/

theorem test_decode_packrgb : decode 0b00000000000000000000000000000001 = .ok .packrgb := by decide
theorem test_decode_unpackr : decode 0b00000000000000000000000000000010 = .ok .unpackr := by decide
theorem test_decode_unpackg : decode 0b00000000000000000000000000000011 = .ok .unpackg := by decide
theorem test_decode_unpackb : decode 0b00000000000000000000000000000100 = .ok .unpackb := by decide
theorem test_decode_hsl : decode 0b00000000000000000000000000000101 = .ok .hsl := by decide
theorem test_decode_named_red : decode 0b00000000000000000000000000000110 = .ok (.named 0) := by decide
theorem test_decode_named_black : decode 0b00000000000000000000000010010110 = .ok (.named 9) := by decide
theorem test_decode_pset : decode 0b00000000000000000000000000000111 = .ok .pset := by decide
theorem test_decode_pget : decode 0b00000000000000000000000000001000 = .ok .pget := by decide
theorem test_decode_dims : decode 0b00000000000000000000000000001001 = .ok .dims := by decide
theorem test_decode_gamma : decode 0b00000000000000000000000000001010 = .ok .gamma := by decide
theorem test_decode_showFrame : decode 0b00000000000000000000000000001011 = .ok .showFrame := by decide

theorem test_illegal_zero : decode 0x00000000 = .error .reservedOpcode := by decide
theorem test_illegal_opcodes : [0xC, 0xD, 0xE, 0xF].map decode = List.replicate 4 (.error .reservedOpcode) := by decide
theorem test_illegal_stray_index : [0x15, 0x1B].map decode = List.replicate 2 (.error .strayIndex) := by decide
theorem test_illegal_high_bits :
    [0x105, 0x80000005, 0xFFFFFFFF].map decode = List.replicate 3 (.error .nonzeroHighBits) := by decide
theorem test_illegal_named : [0xA6, 0xF6].map decode = List.replicate 2 (.error .namedIndexTooLarge) := by decide
theorem test_decodeTableWord : decodeTableWord 32 0x96 = some (.named 9) ∧ decodeTableWord 32 0xA6 = none := by decide

/-- The one check of well-formedness, with a term it takes and a term it refuses. -/
theorem test_wf_named_index : (Instr.named 9).wf = true ∧ (Instr.named 10).wf = false := by decide

/-! ## Instantiation T of `95_test_vectors.md` section 0 -/

/-- GAMMA_T, NAMED_TABLE and the transport constants of T. -/
def paramsT : Params where
  gammaTable := .tabulate fun i => BitVec.ofNat 8 (i.val * i.val / 255)
  namedTable := ⟨[0xFF0000, 0xFFA500, 0xFFFF00, 0x00FF00, 0x0000FF, 0x4B0082, 0x8A2BE2, 0xFF00FF, 0xFFFFFF, 0x000000], rfl⟩
  devAddr := 0x74
  regBankSel := 0xFD
  regColor := 0x24
  regFrameSel := 0x01
  bankConfig := 0x0B

/-- The reset state under T with operands loaded. -/
def loaded (a0 a1 a2 : Word) : State := { State.reset with a0 := a0, a1 := a1, a2 := a2, params := paramsT }

/-- The grid of W1 to W7. -/
def gridW : Table Color 72 := (((Table.replicate 72 0).set 0 0xFF0000).set 1 0x4D99E6).set 71 0x01FE01

/-- The state before W1 to W7, with the transport's answers. -/
def beforeShow (af : BitVec 1) (answers : List Bool) : State :=
  { loaded 0 0 0 with af := af, grid := gridW, transport := answers.map .answer }

/-- A SHOW waiting for the answer to operation `k`. -/
def waiting (k : OpNum) (events : List TransportEvent) : State :=
  { loaded 0 0 0 with drv := .transferring k, transport := events }

/-- The block idle with host events to come. -/
def withHost (events : List HostEvent) : State := { loaded 0 0 0 with host := events }

/-- The outcome is a next state that passes the check. -/
def nextHas (o : Host.Outcome State Fault Refusal) (check : State → Bool) : Bool :=
  match o with
  | .next t => check t
  | .fault _ => false
  | .refused _ => false

theorem test_paramsT_wf : paramsT.wf := by
  refine ⟨by decide +kernel, fun i => ?_, by decide, by decide⟩
  simp only [paramsT, Table.get_tabulate]
  revert i
  decide +kernel

/-! ## One or two vectors for each command -/

/-- K6. -/
theorem test_packrgb_masks :
    nextHas (exec .packrgb (loaded 256 0xFFFFFFFF 511)) (fun t => t.r0 == 0x0000FFFF && t.err == 0) = true := by decide
/-- K9. -/
theorem test_packrgb_extremes :
    nextHas (exec .packrgb (loaded 0x80000000 0x7FFFFFFF 0x12345678)) (fun t => t.r0 == 0x0000FF78) = true := by decide
/-- X4. -/
theorem test_unpackr_ignores_top : nextHas (exec .unpackr (loaded 0xFF123456 0 0)) (fun t => t.r0 == 0x12) = true := by
  decide
/-- X4. -/
theorem test_unpackg_ignores_top : nextHas (exec .unpackg (loaded 0xFF123456 0 0)) (fun t => t.r0 == 0x34) = true := by
  decide
/-- X4. -/
theorem test_unpackb_ignores_top : nextHas (exec .unpackb (loaded 0xFF123456 0 0)) (fun t => t.r0 == 0x56) = true := by
  decide
/-- H21, H9, H15, H28, H31: each sector parity, a component of 255, clamping, a negative hue. -/
theorem test_hsl_vectors :
    [hslColor 210 75 60, hslColor 61 99 50, hslColor 0 99 99, hslColor 400 150 (-5), hslColor (-2147483648) 99 50] =
    [0x4D99E6, 0xFAFE01, 0xFFFAFA, 0x000000, 0x0123FE] := by decide +kernel
/-- H25: the hue −1 as it stands in A0. -/
theorem test_hsl_negative_hue :
    nextHas (exec .hsl (loaded 0xFFFFFFFF 99 50)) (fun t => t.r0 == 0x00FE0105 && t.err == 0) = true := by decide +kernel
/-- Rule R108 item 6: the primaries and the middle grey. -/
theorem test_hsl_primaries :
    [hslColor 0 99 50, hslColor 120 99 50, hslColor 240 99 50, hslColor 0 0 50] =
    [0xFE0101, 0x01FE01, 0x0101FE, 0x808080] := by decide +kernel
/-- N2. -/
theorem test_named_orange :
    nextHas (runCommand 0x16 (loaded 0 0 0)) (fun t => t.r0 == 0x00FFA500 && t.err == 0) = true := by decide
/-- N11. -/
theorem test_named_index_10 :
    nextHas (runCommand 0xA6 { loaded 0 0 0 with r0 := 7 }) (fun t => t.r0 == 7 && t.err == 3) = true := by decide
/-- G3. -/
theorem test_pset_last_cell :
    nextHas (exec .pset (loaded 11 5 0xAB123456)) (fun t => t.grid.get 71 == 0x123456 && t.err == 0) = true := by decide
/-- G5: column 12 is not column 0 of the next row. -/
theorem test_pset_out_of_bounds :
    nextHas (exec .pset (loaded 12 0 0xFFFFFF)) (fun t => t.grid.get 12 == 0 && t.err == 1) = true := by decide
/-- G4, on the grid of W1. -/
theorem test_pget_last_cell :
    nextHas (exec .pget { loaded 11 5 0 with grid := gridW }) (fun t => t.r0 == 0x0001FE01) = true := by decide
/-- G8: a negative row; R0 keeps its value. -/
theorem test_pget_negative_row :
    nextHas (exec .pget { loaded 0 0xFFFFFFFF 0 with r0 := 9 }) (fun t => t.r0 == 9 && t.err == 1) = true := by decide
/-- G14. -/
theorem test_dims : nextHas (exec .dims (loaded 5 5 5)) (fun t => t.r0 == 12 && t.r1 == 6) = true := by decide
/-- M6. -/
theorem test_gamma_low_byte :
    nextHas (exec .gamma (loaded 0x12345680 0 0)) (fun t => t.r0 == 0x40 && t.err == 0) = true := by decide +kernel
/-- W1: STATUS, the order of the four operations, and bytes 0, 3, 4, 5, 213, 214 of the buffer. -/
theorem test_show_W1 :
    nextHas (exec .showFrame (beforeShow 0 [true, true, true, true])) (fun t =>
      statusWord t == 0x100 && t.drv == .idle && t.transport == [] &&
      ([0, 3, 4, 5, 213, 214].map t.cb.get == [0xFF, 0x17, 0x5B, 0xCF, 0x00, 0xFD]) &&
      t.wire == [⟨.writeByte 0x74 0xFD 0x01, true⟩, ⟨.writeBuffer 0x74 0x24 t.cb, true⟩,
        ⟨.writeByte 0x74 0xFD 0x0B, true⟩, ⟨.writeByte 0x74 0x01 0x01, true⟩]) = true := by decide +kernel
/-- W7: AF 1, the second operation fails. -/
theorem test_show_W7 :
    nextHas (exec .showFrame (beforeShow 1 [true, false])) (fun t =>
      statusWord t == 0x122 && t.wire.length == 2 &&
      t.wire.head? == some ⟨.writeByte 0x74 0xFD 0x00, true⟩) = true := by decide +kernel

/-! ## The host port (section 2.9) and the step -/

theorem test_write_then_read_a0 :
    nextHas (core.run 2 (withHost [.write 0 0xDEADBEEF, .read 0])) (fun t =>
      t.replies == [⟨0, 0xDEADBEEF⟩] && t.host == []) = true := by decide
theorem test_status_is_read_only :
    nextHas (core.run 2 (withHost [.write 6 0xFFFFFFFF, .read 6])) (fun t => t.replies == [⟨6, 0⟩]) = true := by decide
/-- Rule R192: a reset between operations 1 and 2 keeps the one record and nothing else. -/
theorem test_reset_during_show :
    nextHas (core.run 2 (waiting .bankSelect [.answer true, .reset])) (fun t =>
      t.drv == .idle && t.wire == [⟨.writeByte 0x74 0xFD 0x01, true⟩]) = true := by decide +kernel
/-- The very first step after reset runs a word placed by withFetchWord, for a command that ends and for one that waits. -/
theorem test_placed_word_runs :
    nextHas (step (State.reset.withFetchWord 32 0x9)) (fun t => t.r0 == 12) = true ∧
    nextHas (step (State.reset.withFetchWord 32 0xB)) (fun t => t.drv == .transferring .bankSelect) = true := by decide

/-! ## Witnesses: hypotheses that can be met -/

theorem witness_DecodeEncodeRoundTrip : (Instr.named 0).wf = true ∧ (Instr.named 9).wf = true ∧ Instr.showFrame.wf = true := by
  decide
theorem witness_EncodeDecodeRoundTrip : decode 0x96 = .ok (.named 9) := by decide
theorem witness_IllegalWordsRaiseIllegalCommand :
    (∃ e, decode 0x105 = .error e) ∧ (∃ e, decode 0xC = .error e) ∧ (∃ e, decode 0x15 = .error e) ∧
    (∃ e, decode 0xA6 = .error e) := ⟨⟨_, rfl⟩, ⟨_, rfl⟩, ⟨_, rfl⟩, ⟨_, rfl⟩⟩
theorem witness_HostRegisterMap :
    decode 0x1 = .ok .packrgb ∧ (∃ e, decode 0xC = .error e) ∧ 4 ≤ (4 : BitVec 3).toNat ∧ 4 ≤ (7 : BitVec 3).toNat :=
  ⟨by decide, ⟨_, rfl⟩, by decide, by decide⟩
theorem witness_HostReadChangesNoBlockState :
    (withHost [.read 7]).drv = .idle ∧ (withHost [.read 7]).host = .read 7 :: [] := ⟨rfl, rfl⟩
theorem witness_StepRunsTheDecodedCommand :
    (withHost [.write 3 0x96]).drv = .idle ∧ (withHost [.write 3 0x96]).host = .write 3 0x96 :: [] ∧
    decode 0x96 = .ok (.named 9) ∧ (withHost [.write 3 0xA6]).host = .write 3 0xA6 :: [] ∧
    ∃ e, decode 0xA6 = .error e := ⟨rfl, rfl, by decide, rfl, _, rfl⟩
theorem witness_PlacedWordRunsNext : (Instr.named 9).wf = true := by decide
theorem witness_OperandLoadsThenCommand :
    (withHost [.write 0 1, .write 1 2, .write 2 3, .write 3 1]).drv = .idle ∧ decode 1 = .ok .packrgb ∧
    (withHost [.write 0 1, .write 1 2, .write 2 3, .write 3 1]).host =
      .write 0 1 :: .write 1 2 :: .write 2 3 :: .write 3 1 :: [] := ⟨rfl, by decide, rfl⟩
theorem witness_EachAccessIsTakenOnce :
    ∃ t, (withHost [.write 3 0]).drv = .idle ∧ (withHost [.write 3 0]).host = .write 3 0 :: [] ∧
      step (withHost [.write 3 0]) = .next t := ⟨_, rfl, rfl, rfl⟩
theorem witness_HostPortIsClosedDuringTransfer :
    ∃ t, (waiting .configSelect [.answer true]).drv = .transferring .configSelect ∧
      step (waiting .configSelect [.answer true]) = .next t := ⟨_, rfl, rfl⟩
theorem witness_IdleBlockHoldsItsState : State.reset.drv = .idle ∧ State.reset.host = [] := ⟨rfl, rfl⟩
theorem witness_HslIntermediatesStayInBounds :
    ((0 : Int) ≤ 359 ∧ (359 : Int) < 360 ∧ (0 : Int) ≤ 99 ∧ (99 : Int) ≤ 99) ∧ ((0 : Int) ≤ 0 ∧ (0 : Int) < 360) := by
  decide
theorem witness_HslBlackGreysAndNoWhite : ((0 : Int) ≤ 0 ∧ (0 : Int) ≤ 99) ∧ ((0 : Int) ≤ 99 ∧ (99 : Int) ≤ 99) := by
  decide
theorem witness_NamedResult : (9 : BitVec 4).toNat < 10 ∧ 10 ≤ (10 : BitVec 4).toNat := by decide
theorem witness_CodecCommandsNeverFail :
    (Instr.hsl.wf = true ∧ Instr.hsl ∈ [Instr.packrgb, .unpackr, .unpackg, .unpackb, .hsl]) ∧
    ((Instr.named 9).wf = true ∧ ∃ idx, Instr.named 9 = .named idx) := ⟨by decide, by decide, 9, rfl⟩
theorem witness_PsetResult :
    ((loaded 11 5 0).a0.toInt = (11 : Nat) ∧ (loaded 11 5 0).a1.toInt = (5 : Nat)) ∧
    ((loaded 0 0 0).a0.toInt = (0 : Nat) ∧ (loaded 0 0 0).a1.toInt = (0 : Nat)) ∧
    12 ≤ (loaded 12 0 0).a0.toInt ∧ (loaded 0xFFFFFFFF 0 0).a0.toInt < 0 ∧ 6 ≤ (loaded 0 6 0).a1.toInt ∧
    (loaded 0 0xFFFFFFFF 0).a1.toInt < 0 := by decide
theorem witness_PgetResult :
    ((loaded 11 5 0).a0.toInt = (11 : Nat) ∧ (loaded 11 5 0).a1.toInt = (5 : Nat)) ∧
    12 ≤ (loaded 12 0 0).a0.toInt ∧ 6 ≤ (loaded 0 6 0).a1.toInt ∧ (loaded 11 5 0).grid = State.reset.grid :=
  ⟨by decide, by decide, by decide, rfl⟩
theorem witness_DimsResult : Instr.pget ≠ .dims ∧ ∃ t, exec .pget (loaded 0 0 0) = .next t := ⟨by decide, _, rfl⟩
theorem witness_PsetChangesNoOtherCell :
    (∃ t, exec .pset (loaded 11 5 1) = .next t) ∧ ¬ ((0 : Int) = (loaded 11 5 1).a0.toInt ∧ (0 : Int) = (loaded 11 5 1).a1.toInt) ∧
    (11 : Int) = (loaded 11 5 1).a0.toInt ∧ (5 : Int) = (loaded 11 5 1).a1.toInt := ⟨⟨_, rfl⟩, by decide⟩
theorem witness_SetThenGetReturnsTheColour :
    (0 ≤ (loaded 11 5 1).a0.toInt ∧ (loaded 11 5 1).a0.toInt < 12 ∧ 0 ≤ (loaded 11 5 1).a1.toInt ∧
      (loaded 11 5 1).a1.toInt < 6) ∧
    ∃ t u : State, exec .pset (loaded 11 5 1) = .next t ∧ u.grid = t.grid ∧ u.a0 = (loaded 11 5 1).a0 ∧ u.a1 = (loaded 11 5 1).a1 :=
  ⟨by decide, _, _, rfl, rfl, rfl, rfl⟩
theorem witness_GridChangesByPsetOrResetOnly_pset :
    nextHas (step { withHost [.write 3 7] with a2 := 1 }) (fun t => t.grid != (withHost []).grid) = true := by
  decide +kernel
theorem witness_GridChangesByPsetOrResetOnly_reset :
    nextHas (step { withHost [.reset] with grid := gridW }) (fun t => t.grid != gridW) = true := by decide +kernel
theorem witness_GammaResult : (loaded 0x100 0 0).params.wf ∧ (loaded 0x100 0 0).a0.toNat % 256 = 0 :=
  ⟨test_paramsT_wf, by decide⟩
theorem witness_GammaIsMonotone : paramsT.wf ∧ (0 : Byte).toNat ≤ (255 : Byte).toNat := ⟨test_paramsT_wf, by decide⟩
theorem witness_ParametersNeverChange : ∃ t, step (withHost [.write 3 0xA]) = .next t := ⟨_, rfl⟩
theorem witness_FrameBufferBytes : (0 < 12 ∧ 0 < 6) ∧ (11 < 12 ∧ 5 < 6) := by decide
theorem witness_ShowSucceeds :
    (beforeShow 1 [true, true, true, true]).transport =
      .answer true :: .answer true :: .answer true :: .answer true :: [] := rfl
theorem witness_ShowFailsAtEachOperation :
    (1 ≤ 1 ∧ (beforeShow 0 [false]).transport = List.replicate (1 - 1) (.answer true) ++ .answer false :: []) ∧
    (4 ≤ 4 ∧ (beforeShow 0 [true, true, true, false]).transport =
      List.replicate (4 - 1) (.answer true) ++ .answer false :: []) := by decide
theorem witness_UnansweredTransferHangs :
    ((waiting .frameSelect []).drv = .transferring .frameSelect ∧ (waiting .frameSelect []).transport = []) ∧
    ((waiting .bankSelect [.reset]).drv = .transferring .bankSelect ∧ (waiting .bankSelect [.reset]).transport = .reset :: []) ∧
    (0 ≤ 3 ∧ (beforeShow 0 []).transport = List.replicate 0 (.answer true)) ∧
    (3 ≤ 3 ∧ (beforeShow 0 [true, true, true]).transport = List.replicate 3 (.answer true)) := by decide
theorem witness_TransferTable_start :
    (withHost [.write 3 0xB]).drv = .idle ∧ (withHost [.write 3 0xB]).host = .write 3 0x0000000B :: [] ∧
    (withHost [.write 3 0xB]).transport = [] := ⟨rfl, rfl, rfl⟩
theorem witness_TransferTable_success (k : OpNum) :
    (waiting k [.answer true]).drv = .transferring k ∧ (waiting k [.answer true]).transport = .answer true :: [] :=
  ⟨rfl, rfl⟩
theorem witness_TransferTable_failure (k : OpNum) :
    (waiting k [.answer false]).drv = .transferring k ∧ (waiting k [.answer false]).transport = .answer false :: [] :=
  ⟨rfl, rfl⟩
theorem witness_TransferTable_wait_and_reset (k : OpNum) :
    ((waiting k []).drv = .transferring k ∧ (waiting k []).transport = []) ∧
    (waiting k [.reset]).drv = .transferring k ∧ (waiting k [.reset]).transport = .reset :: [] :=
  ⟨⟨rfl, rfl⟩, rfl, rfl⟩
/-- The operations at both ends of the range, and one between. -/
theorem witness_RetryTargetsTheSameBank :
    (1 ≤ 1 ∧ 1 ≤ 4 ∧ (beforeShow 0 [false, true, true, true, true]).transport = List.replicate (1 - 1) (.answer true) ++
      .answer false :: .answer true :: .answer true :: .answer true :: .answer true :: []) ∧
    (1 ≤ 2 ∧ 2 ≤ 4 ∧ (beforeShow 0 [true, false, true, true, true, true]).transport =
      List.replicate (2 - 1) (.answer true) ++
      .answer false :: .answer true :: .answer true :: .answer true :: .answer true :: []) ∧
    (1 ≤ 4 ∧ 4 ≤ 4 ∧ (beforeShow 1 [true, true, true, false, true, true, true, true]).transport =
      List.replicate (4 - 1) (.answer true) ++
      .answer false :: .answer true :: .answer true :: .answer true :: .answer true :: []) := by decide
theorem witness_TwoShowsAlternateTheBanks :
    (beforeShow 0 (List.replicate 8 true)).transport = List.replicate 8 (.answer true) ++ [] := by decide
theorem witness_WireHoldsOnlyShows :
    ∃ t, (loaded 0 0 0).WireInv ∧ step (loaded 0 0 0) = .next t := ⟨_, ⟨⟨[], rfl⟩, fun _ h => by cases h⟩, rfl⟩
theorem witness_StepKeepsTheStateInvariant :
    ∃ t, { withHost [.write 3 0xC] with err := 2, fstep := 4, r1 := 6 }.Inv ∧
      step { withHost [.write 3 0xC] with err := 2, fstep := 4, r1 := 6 } = .next t :=
  ⟨_, ⟨by decide, by decide, by decide, by decide, by decide⟩, rfl⟩
theorem witness_CompletionCodesOfEachCommand :
    nextHas (exec .showFrame (beforeShow 0 [true, true, true, false])) (fun t => t.drv == .idle && t.err == 2 && t.fstep == 4) = true ∧
    nextHas (exec .pget (loaded 0 6 0)) (fun t => t.drv == .idle && t.err == 1) = true ∧ Instr.showFrame.wf = true := by
  decide +kernel
theorem witness_ErrorsArePrecise :
    nextHas (exec .pset (loaded 12 0 1)) (fun t => t.drv == .idle && t.err != 0) = true ∧
    nextHas (exec .showFrame (beforeShow 0 [false])) (fun t => t.drv == .idle && t.err != 0) = true := by decide +kernel
theorem witness_EachStateHasItsOneWriter :
    (∃ t, exec .dims (loaded 0 0 0) = .next t) ∧ (∃ t, exec .showFrame (loaded 0 0 0) = .next t) := ⟨⟨_, rfl⟩, ⟨_, rfl⟩⟩
theorem witness_IgnoredOperandsDoNotMatter :
    (∃ t, exec .packrgb (loaded 0x12 0x34 0x56) = .next t) ∧
    ((0xFFFFFF12 : Word) &&& 0xFF = (loaded 0x12 0x34 0x56).a0 &&& 0xFF) ∧
    ((0xAB000012 : Word) &&& 0xFFFFFF = (loaded 0x12 0x34 0x56).a0 &&& 0xFFFFFF) := ⟨⟨_, rfl⟩, by decide⟩
theorem witness_ResetEndsATransfer :
    ((∃ k, (waiting .configSelect [.reset]).drv = .transferring k) ∧ (waiting .configSelect [.reset]).transport = .reset :: [] ∧
      (waiting .configSelect [.reset]).host = []) ∧
    ((withHost [.reset]).drv = .idle ∧ (withHost [.reset]).host = .reset :: [] ∧ (withHost [.reset]).transport = []) :=
  ⟨⟨⟨_, rfl⟩, rfl, rfl⟩, rfl, rfl, rfl⟩

end Sys2Proof.Tests
end

section
/-! SUPPORT. The machine at large: the open parameters meet the spec's constraints (`00_scope.md` rule R5), and an idle
block that the host leaves alone stays as it is (rule R10, `60_exceptions.md` rule R185). -/

namespace Sys2Proof

/-! ## The open parameters -/

namespace Config

/-- The running maximum does not fall: an entry is a draw only where that draw is no smaller (`42_gamma.md` rule
R141). -/
theorem gammaEntry_le_succ (i : Nat) : gammaEntry i ≤ gammaEntry (i + 1) := by
  rw [gammaEntry]
  split
  case isTrue h => exact h
  case isFalse => exact BitVec.le_refl _

/-- Two more than a number below 254 is still a byte: nothing wraps around to 0 or 1 (`00_scope.md` rule R5). -/
theorem toNat_bankConfig (d : Fin 254) : (BitVec.ofNat 8 (d.val + 2)).toNat = d.val + 2 :=
  Nat.mod_eq_of_lt (by omega)

end Config

theorem Params.platform_gammaTable_get (i : Fin 256) :
    Params.platform.gammaTable.get i = Config.gammaEntry i.val :=
  Table.get_tabulate _ i

theorem Params.platform_bankConfig_ge_two : 2 ≤ Params.platform.bankConfig.toNat :=
  calc
    2 ≤ Config.bankConfigDraw.val + 2 := Nat.le_add_left 2 _
    _ = Params.platform.bankConfig.toNat := (Config.toNat_bankConfig _).symm

/-- BANK_CONFIG is neither of the two bytes that `00_scope.md` rule R5 excludes. -/
theorem Params.platform_bankConfig_ne {b : Byte} (hb : b.toNat < 2) : Params.platform.bankConfig ≠ b := by
  have h := Params.platform_bankConfig_ge_two
  rintro rfl
  omega

/-- Settles O34: the gamma table is a running maximum that starts at 0, and BANK_CONFIG is at least 2. -/
theorem platformParametersAreAdmissible : Obligations.PlatformParametersAreAdmissible := by
  unfold Obligations.PlatformParametersAreAdmissible
  refine ⟨?zero, ?monotone, ?ne_zero, ?ne_one⟩
  case zero => exact Params.platform_gammaTable_get 0
  case monotone =>
    intro i
    rw [Params.platform_gammaTable_get, Params.platform_gammaTable_get]
    exact Config.gammaEntry_le_succ i.val
  case ne_zero => exact Params.platform_bankConfig_ne (by decide)
  case ne_one => exact Params.platform_bankConfig_ne (by decide)

/-! ## The idle block -/

namespace Machine

/-- An idle block without a host event holds its state for one step (`60_exceptions.md` rule R185). -/
theorem step_idle_of_host_nil {s : State} (hd : s.drv = .idle) (hh : s.host = []) : step s = .next s := by
  rcases step_cases s with ⟨-, -, hs⟩ | ⟨e, rest, -, hcons, -⟩ | ⟨k, hk, -⟩
  · exact hs
  · simp [hh] at hcons
  · simp [hd] at hk

/-- Settles O14: the step leads back to the same state, so a run of any length does. -/
theorem idleBlockHoldsItsState : Obligations.IdleBlockHoldsItsState := by
  unfold Obligations.IdleBlockHoldsItsState
  intro s hd hh
  exact run_fixed (step_idle_of_host_nil hd hh)

end Machine

end Sys2Proof
end

section
/-! SUPPORT. What a command and a host event can do, each said once as a predicate with named cases, and what a
transfer leaves alone. Proofs about commands and steps take these cases and unfold no meaning. -/

namespace Sys2Proof.Machine

/-! ## Results and transfers -/

/-- A value of at most 24 bits is below 2^24 in a register as well (`10_state.md` rule R37). -/
theorem zext32_toNat_lt {n : Nat} (v : BitVec n) (hn : n ≤ 24) : (zext32 v).toNat < 2 ^ 24 :=
  calc
    (zext32 v).toNat = v.toNat % 2 ^ 32 := BitVec.toNat_setWidth 32 v
    _ ≤ v.toNat := Nat.mod_le _ _
    _ < 2 ^ n := v.isLt
    _ ≤ 2 ^ 24 := Nat.pow_le_pow_right (by decide) hn

/-- The linear index of a cell as an integer (`20_memory.md` rule R55). -/
theorem cellIndex_val {c r : Int} (h : inBounds c r) : ((cellIndex c r h).val : Int) = r * 12 + c := by
  obtain ⟨hc, -, hr, -⟩ := inBounds_iff.mp h
  exact Int.toNat_of_nonneg (by omega)

/-- After a success another operation is outstanding, or the SHOW completes with the other frame active
(`43_display.md` rules R156, R158). -/
theorem transferNext_cases (k : OpNum) (s : State) :
    (∃ k', transferNext k s = { s with drv := .transferring k' }) ∨
    transferNext k s = { s with af := s.af ^^^ 1#1 }.complete := by
  cases k with
  | bankSelect => exact .inl ⟨_, rfl⟩
  | bufferWrite => exact .inl ⟨_, rfl⟩
  | configSelect => exact .inl ⟨_, rfl⟩
  | frameSelect => exact .inr rfl

/-- What a SHOW leaves alone from its start to its end: the registers, the grid, the constants and the host side. -/
structure TransferFrame (s t : State) : Prop where
  a0 : t.a0 = s.a0
  a1 : t.a1 = s.a1
  a2 : t.a2 = s.a2
  r0 : t.r0 = s.r0
  r1 : t.r1 = s.r1
  grid : t.grid = s.grid
  params : t.params = s.params
  host : t.host = s.host
  replies : t.replies = s.replies
  draws : t.draws = s.draws

theorem TransferFrame.refl (s : State) : TransferFrame s s :=
  ⟨rfl, rfl, rfl, rfl, rfl, rfl, rfl, rfl, rfl, rfl⟩

theorem TransferFrame.trans {s t u : State} (h : TransferFrame s t) (h' : TransferFrame t u) : TransferFrame s u :=
  ⟨h'.a0.trans h.a0, h'.a1.trans h.a1, h'.a2.trans h.a2, h'.r0.trans h.r0, h'.r1.trans h.r1, h'.grid.trans h.grid,
    h'.params.trans h.params, h'.host.trans h.host, h'.replies.trans h.replies, h'.draws.trans h.draws⟩

theorem transferNext_frame (k : OpNum) (s : State) : TransferFrame s (transferNext k s) := by
  rcases transferNext_cases k s with ⟨k', h⟩ | h <;> rw [h] <;> constructor <;> rfl

theorem transportAnswer_frame (k : OpNum) (ok : Bool) (s : State) : TransferFrame s (transportAnswer k ok s) := by
  cases ok with
  | false => constructor <;> rfl
  | true =>
    have hrecord : TransferFrame s (s.recordWire (transportRequest k s) true) := by constructor <;> rfl
    exact hrecord.trans (transferNext_frame k _)

/-- The answer is taken from the transport's queue, which the frame does not mention. -/
theorem transportAnswer_taken_frame (k : OpNum) (ok : Bool) (s : State) (rest : List TransportEvent) :
    TransferFrame s (transportAnswer k ok { s with transport := rest }) := by
  have htake : TransferFrame s { s with transport := rest } := by constructor <;> rfl
  exact htake.trans (transportAnswer_frame k ok _)

theorem transferStep_frame (s : State) : TransferFrame s (transferStep s) := by
  rcases transferStep_cases s with h | ⟨k, ok, rest, -, -, h⟩ <;> rw [h]
  · exact .refl s
  · exact transportAnswer_taken_frame k ok s rest

/-- SHOW as far as the transport answers it. -/
theorem show_frame (s : State) : TransferFrame s (runTransfer 4 (showStart s)) := by
  have hstart : TransferFrame s (showStart s) := by constructor <;> rfl
  exact runTransfer_keeps (P := TransferFrame s) (fun t ht => ht.trans (transferStep_frame t)) 4 _ hstart

/-! ## What a command can do -/

/-- Everything a command can do, as the relation of the states before and after it (`40_colorcodec.md`,
`41_pixelgrid.md`, `42_gamma.md`, `43_display.md`). -/
inductive ExecEffect (s : State) : Instr → State → Prop
  /-- One value of at most 24 bits in R0. -/
  | result {i : Instr} {v : Word} (hpset : i ≠ .pset) (hdims : i ≠ .dims) (hshow : i ≠ .showFrame)
      (hv : v.toNat < 2 ^ 24) : ExecEffect s i (s.writeR0 v).complete
  | dims : ExecEffect s .dims ((s.writeR0 12).writeR1 6).complete
  | pset (h : inBounds (sint s.a0) (sint s.a1)) :
      ExecEffect s .pset { s with grid := s.grid.set (cellIndex _ _ h) (colorOperand s.a2) }.complete
  | outOfBounds {i : Instr} (hi : i = .pset ∨ i = .pget) : ExecEffect s i (s.raise .outOfBounds)
  | namedIllegal {idx : BitVec 4} (h : 10 ≤ idx.toNat) : ExecEffect s (.named idx) (s.raise .illegalCommand)
  | showFrame : ExecEffect s .showFrame (runTransfer 4 (showStart s))

theorem execNamed_effect (idx : BitVec 4) (s : State) :
    ∃ t, execNamed idx s = .next t ∧ ExecEffect s (.named idx) t := by
  by_cases h : idx.toNat < 10
  · exact ⟨_, dif_pos h, .result nofun nofun nofun (zext32_toNat_lt _ (by decide))⟩
  · exact ⟨_, dif_neg h, .namedIllegal (by omega)⟩

theorem execPset_effect (s : State) : ∃ t, execPset s = .next t ∧ ExecEffect s .pset t := by
  by_cases h : inBounds (sint s.a0) (sint s.a1)
  · exact ⟨_, by simp only [execPset, gridWrite_inBounds h], .pset h⟩
  · exact ⟨_, by simp only [execPset, gridWrite_outside h], .outOfBounds (.inl rfl)⟩

theorem execPget_effect (s : State) : ∃ t, execPget s = .next t ∧ ExecEffect s .pget t := by
  by_cases h : inBounds (sint s.a0) (sint s.a1)
  · exact ⟨(s.writeR0 (zext32 (s.grid.get (cellIndex _ _ h)))).complete,
      by simp only [execPget, gridRead_inBounds h], .result nofun nofun nofun (zext32_toNat_lt _ (by decide))⟩
  · exact ⟨_, by simp only [execPget, gridRead_outside h], .outOfBounds (.inr rfl)⟩

/-- Every command answers a next state, by one of the cases of `ExecEffect`. -/
theorem exec_effect (i : Instr) (s : State) : ∃ t, exec i s = .next t ∧ ExecEffect s i t := by
  cases i with
  | packrgb => exact ⟨_, rfl, .result nofun nofun nofun (zext32_toNat_lt _ (by decide))⟩
  | unpackr => exact ⟨_, rfl, .result nofun nofun nofun (zext32_toNat_lt _ (by decide))⟩
  | unpackg => exact ⟨_, rfl, .result nofun nofun nofun (zext32_toNat_lt _ (by decide))⟩
  | unpackb => exact ⟨_, rfl, .result nofun nofun nofun (zext32_toNat_lt _ (by decide))⟩
  | hsl => exact ⟨_, rfl, .result nofun nofun nofun (zext32_toNat_lt _ (by decide))⟩
  | named idx => exact execNamed_effect idx s
  | pset => exact execPset_effect s
  | pget => exact execPget_effect s
  | dims => exact ⟨_, rfl, .dims⟩
  | gamma => exact ⟨_, rfl, .result nofun nofun nofun (zext32_toNat_lt _ (by decide))⟩
  | showFrame => exact ⟨_, rfl, .showFrame⟩

theorem effect_of_exec {i : Instr} {s t : State} (h : exec i s = .next t) : ExecEffect s i t := by
  obtain ⟨u, hu, heffect⟩ := exec_effect i s
  obtain rfl : u = t := by simpa [hu] using h
  exact heffect

/-! ## What a host event can do -/

/-- Everything a host event at an idle block can do, as the relation of the states before and after it
(`20_memory.md` rules R52 to R54, `70_reset_and_hazards.md` rule R190). -/
inductive HostEffect (s : State) : HostEvent → State → Prop
  | read (n : BitVec 3) : HostEffect s (.read n) (s.answerRead n)
  | writeA0 (w : Word) : HostEffect s (.write 0 w) { s with a0 := w }
  | writeA1 (w : Word) : HostEffect s (.write 1 w) { s with a1 := w }
  | writeA2 (w : Word) : HostEffect s (.write 2 w) { s with a2 := w }
  | command {w : Word} {i : Instr} {t : State} (hdecode : decode w = .ok i) (hexec : ExecEffect s i t) :
      HostEffect s (.write 3 w) t
  | illegal {w : Word} {e : DecodeError} (hdecode : decode w = .error e) :
      HostEffect s (.write 3 w) (s.raise .illegalCommand)
  | ignored {n : BitVec 3} (w : Word) (hn : 4 ≤ n.toNat) : HostEffect s (.write n w) s
  | reset : HostEffect s .reset s.resetEvent

theorem runCommand_effect (w : Word) (s : State) : ∃ t, runCommand w s = .next t ∧ HostEffect s (.write 3 w) t := by
  rcases runCommand_cases w s with ⟨i, hdecode, h⟩ | ⟨e, hdecode, h⟩
  · obtain ⟨t, hexec, heffect⟩ := exec_effect i s
    exact ⟨t, h.trans hexec, .command hdecode heffect⟩
  · exact ⟨_, h, .illegal hdecode⟩

theorem hostWrite_effect (n : BitVec 3) (w : Word) (s : State) :
    ∃ t, hostWrite n w s = .next t ∧ HostEffect s (.write n w) t := by
  rcases hostWrite_cases n w s with ⟨rfl, h⟩ | ⟨rfl, h⟩ | ⟨rfl, h⟩ | ⟨rfl, h⟩ | ⟨hn, h⟩
  · exact ⟨_, h, .writeA0 w⟩
  · exact ⟨_, h, .writeA1 w⟩
  · exact ⟨_, h, .writeA2 w⟩
  · rw [h]
    exact runCommand_effect w s
  · exact ⟨s, h, .ignored w hn⟩

/-- Every host event is answered with a next state, by one of the cases of `HostEffect`. -/
theorem hostEvent_effect (e : HostEvent) (s : State) : ∃ t, hostEvent e s = .next t ∧ HostEffect s e t := by
  cases e with
  | read n => exact ⟨_, rfl, .read n⟩
  | write n w => exact hostWrite_effect n w s
  | reset => exact ⟨_, rfl, .reset⟩

theorem effect_of_hostEvent {e : HostEvent} {s t : State} (h : hostEvent e s = .next t) : HostEffect s e t := by
  obtain ⟨u, hu, heffect⟩ := hostEvent_effect e s
  obtain rfl : u = t := by simpa [hu] using h
  exact heffect

/-! ## What a step can do -/

/-- Everything a step can do, as the relation of the states before and after it. -/
inductive StepEffect (s : State) : State → Prop
  | hold (hdrv : s.drv = .idle) (hhost : s.host = []) : StepEffect s s
  | host {e : HostEvent} {rest : List HostEvent} {t : State} (hdrv : s.drv = .idle) (hhost : s.host = e :: rest)
      (heffect : HostEffect { s with host := rest } e t) : StepEffect s t
  | wait {k : OpNum} (hdrv : s.drv = .transferring k) (htransport : s.transport = []) : StepEffect s s
  | abort {k : OpNum} {rest : List TransportEvent} (hdrv : s.drv = .transferring k)
      (htransport : s.transport = .reset :: rest) : StepEffect s { s with transport := rest }.resetEvent
  | answer {k : OpNum} {ok : Bool} {rest : List TransportEvent} (hdrv : s.drv = .transferring k)
      (htransport : s.transport = .answer ok :: rest) :
      StepEffect s (transportAnswer k ok { s with transport := rest })

theorem step_effect (s : State) : ∃ t, step s = .next t ∧ StepEffect s t := by
  rcases step_cases s with ⟨hd, hh, h⟩ | ⟨e, rest, hd, hh, h⟩ |
    ⟨k, hd, ⟨ht, h⟩ | ⟨rest, ht, h⟩ | ⟨ok, rest, ht, h⟩⟩
  · exact ⟨s, h, .hold hd hh⟩
  · obtain ⟨t, ht, heffect⟩ := hostEvent_effect e { s with host := rest }
    exact ⟨t, h.trans ht, .host hd hh heffect⟩
  · exact ⟨s, h, .wait hd ht⟩
  · exact ⟨_, h, .abort hd ht⟩
  · exact ⟨_, h, .answer hd ht⟩

theorem effect_of_step {s t : State} (h : step s = .next t) : StepEffect s t := by
  obtain ⟨u, hu, heffect⟩ := step_effect s
  obtain rfl : u = t := by simpa [hu] using h
  exact heffect

end Sys2Proof.Machine
end

section
/-! SUPPORT. The block's state (`10_state.md`): the invariant of rule R37, who writes what (rules R20 to R34), the
fields of STATUS (rule R24), the command at a CMD write (rules R23, R32) and the state after reset (rule R35). -/

namespace Sys2Proof

/-! ## The decoder on an encoded command -/

theorem encode_fields (i : Instr) : Laws.EncodingFields.Statement i := by
  cases i with
  | packrgb => exact Laws.EncodingFields.packrgb
  | unpackr => exact Laws.EncodingFields.unpackr
  | unpackg => exact Laws.EncodingFields.unpackg
  | unpackb => exact Laws.EncodingFields.unpackb
  | hsl => exact Laws.EncodingFields.hsl
  | named idx => exact Laws.EncodingFields.named idx
  | pset => exact Laws.EncodingFields.pset
  | pget => exact Laws.EncodingFields.pget
  | dims => exact Laws.EncodingFields.dims
  | gamma => exact Laws.EncodingFields.gamma
  | showFrame => exact Laws.EncodingFields.showFrame

/-- The decoder gives back the command whose fields a word holds (`30_encoding.md` rule R88). -/
theorem decode_of_fields {w : Word} {i : Instr} (hwf : i.wf = true) (hopc : fieldOpc w = i.opcode)
    (hidx : fieldIdx w = i.index) (hzero : fieldZero w = 0) : decode w = .ok i := by
  unfold decode
  rw [hopc, hidx, hzero]
  cases i with
  | named idx =>
    have hle : idx.toNat ≤ 9 := of_decide_eq_true hwf
    simp [Instr.opcode, Instr.index, hle]
  | _ => rfl

theorem decode_encode {i : Instr} (h : i.wf = true) : decode (encode i) = .ok i := by
  obtain ⟨hopc, hidx, hzero⟩ := encode_fields i
  exact decode_of_fields h hopc hidx hzero

/-- A command's word survives the numbering of the opcode table. -/
theorem tableWord_toNat (w : Word) : tableWord 32 w.toNat = w := by
  simp [tableWord, Nat.mod_eq_of_lt w.isLt]

namespace Machine

/-! ## The invariant of rule R37 -/

variable {s t : State}

theorem inv_of_ok (herr : s.err = 0) (hfstep : s.fstep = 0) (hr0 : s.r0.toNat < 2 ^ 24)
    (hr1 : s.r1 = 0 ∨ s.r1 = 6) : s.Inv where
  err_le := by simp [herr]
  fstep_zero _ := hfstep
  fstep_range h := by simp [herr] at h
  r0_color := hr0
  r1_rows := hr1

/-- The invariant speaks of STATUS and the result registers alone. -/
theorem State.Inv.congr (h : s.Inv) (herr : t.err = s.err) (hfstep : t.fstep = s.fstep) (hr0 : t.r0 = s.r0)
    (hr1 : t.r1 = s.r1) : t.Inv where
  err_le := by rw [herr]; exact h.err_le
  fstep_zero := by rw [herr, hfstep]; exact h.fstep_zero
  fstep_range := by rw [herr, hfstep]; exact h.fstep_range
  r0_color := by rw [hr0]; exact h.r0_color
  r1_rows := by rw [hr1]; exact h.r1_rows

theorem State.Inv.complete (h : s.Inv) : s.complete.Inv :=
  inv_of_ok rfl rfl h.r0_color h.r1_rows

theorem OpNum.number_range (k : OpNum) : 1 ≤ k.number.toNat ∧ k.number.toNat ≤ 4 := by
  cases k <;> decide

/-- The completion codes that an error kind can have (`60_exceptions.md` rule R170). -/
theorem ErrKind.code_le (e : ErrKind) : e.code.toNat ≤ 3 := by
  cases e <;> simp [ErrKind.code]

/-- FSTEP is 0 with every code but 2 (rule R170). -/
theorem ErrKind.failedStep_eq_zero {e : ErrKind} (h : e.code ≠ 2) : e.failedStep = 0 := by
  cases e with
  | transportFailure k => exact absurd rfl h
  | _ => rfl

/-- Code 2 comes with the number of the operation that failed (rule R170). -/
theorem ErrKind.failedStep_range {e : ErrKind} (h : e.code = 2) :
    1 ≤ e.failedStep.toNat ∧ e.failedStep.toNat ≤ 4 := by
  cases e with
  | transportFailure k => exact k.number_range
  | _ => simp [ErrKind.code] at h

theorem State.Inv.raise (h : s.Inv) (e : ErrKind) : (s.raise e).Inv where
  err_le := e.code_le
  fstep_zero := ErrKind.failedStep_eq_zero
  fstep_range := ErrKind.failedStep_range
  r0_color := h.r0_color
  r1_rows := h.r1_rows

theorem inv_of_zero (herr : s.err = 0) (hfstep : s.fstep = 0) (hr0 : s.r0 = 0) (hr1 : s.r1 = 0) : s.Inv :=
  inv_of_ok herr hfstep (by simp [hr0]) (.inl hr1)

theorem resetEvent_inv (s : State) : s.resetEvent.Inv :=
  inv_of_zero rfl rfl rfl rfl

/-- The transport's queue is not part of the invariant. -/
theorem State.Inv.take (h : s.Inv) (rest : List TransportEvent) : State.Inv { s with transport := rest } :=
  h.congr rfl rfl rfl rfl

theorem transportAnswer_inv (h : s.Inv) (k : OpNum) (ok : Bool) : (transportAnswer k ok s).Inv := by
  have hrecord : (s.recordWire (transportRequest k s) ok).Inv := h.congr rfl rfl rfl rfl
  cases ok with
  | false => exact hrecord.raise (.transportFailure k)
  | true =>
    rw [transportAnswer_ok]
    rcases transferNext_cases k (s.recordWire (transportRequest k s) true) with ⟨k', hnext⟩ | hnext <;> rw [hnext]
    · exact hrecord.congr rfl rfl rfl rfl
    · exact State.Inv.complete (hrecord.congr rfl rfl rfl rfl)

theorem transferStep_inv (h : s.Inv) : (transferStep s).Inv := by
  rcases transferStep_cases s with hstep | ⟨k, ok, rest, -, -, hstep⟩ <;> rw [hstep]
  · exact h
  · exact transportAnswer_inv (h.take rest) k ok

theorem show_inv (h : s.Inv) : (runTransfer 4 (showStart s)).Inv := by
  have hstart : (showStart s).Inv := h.congr rfl rfl rfl rfl
  exact runTransfer_keeps (P := State.Inv) (fun _ => transferStep_inv) 4 _ hstart

theorem ExecEffect.inv {i : Instr} (h : ExecEffect s i t) (hs : s.Inv) : t.Inv := by
  cases h with
  | result _ _ _ hv => exact inv_of_ok rfl rfl hv hs.r1_rows
  | dims => exact inv_of_ok rfl rfl (show (12 : Word).toNat < 2 ^ 24 by decide) (.inr rfl)
  | pset => exact State.Inv.complete (hs.congr rfl rfl rfl rfl)
  | outOfBounds => exact hs.raise _
  | namedIllegal => exact hs.raise _
  | showFrame => exact show_inv hs

theorem HostEffect.inv {e : HostEvent} (h : HostEffect s e t) (hs : s.Inv) : t.Inv := by
  cases h with
  | command _ hexec => exact hexec.inv hs
  | illegal => exact hs.raise _
  | reset => exact resetEvent_inv s
  | _ => exact hs.congr rfl rfl rfl rfl

theorem StepEffect.inv (h : StepEffect s t) (hs : s.Inv) : t.Inv := by
  cases h with
  | hold => exact hs
  | host _ _ heffect => exact heffect.inv (hs.congr rfl rfl rfl rfl)
  | wait => exact hs
  | abort => exact resetEvent_inv _
  | answer => exact transportAnswer_inv (hs.take _) _ _

/-- Settles O46: each thing a step can do keeps the invariant. -/
theorem stepKeepsTheStateInvariant : Obligations.StepKeepsTheStateInvariant := by
  unfold Obligations.StepKeepsTheStateInvariant
  intro s t hs h
  exact (effect_of_step h).inv hs

/-- Settles O47: all that the invariant speaks of is 0 at reset. -/
theorem stateInvariantAtReset : Obligations.StateInvariantAtReset := by
  unfold Obligations.StateInvariantAtReset
  exact inv_of_zero rfl rfl rfl rfl

/-! ## Who writes what -/

theorem ExecEffect.operands_eq {i : Instr} (h : ExecEffect s i t) : t.a0 = s.a0 ∧ t.a1 = s.a1 ∧ t.a2 = s.a2 := by
  cases h with
  | showFrame => exact ⟨(show_frame s).a0, (show_frame s).a1, (show_frame s).a2⟩
  | _ => exact ⟨rfl, rfl, rfl⟩

theorem ExecEffect.params_eq {i : Instr} (h : ExecEffect s i t) : t.params = s.params := by
  cases h with
  | showFrame => exact (show_frame s).params
  | _ => rfl

theorem ExecEffect.host_eq {i : Instr} (h : ExecEffect s i t) : t.host = s.host := by
  cases h with
  | showFrame => exact (show_frame s).host
  | _ => rfl

/-- No command answers the host or draws scratch contents. -/
theorem ExecEffect.histories_eq {i : Instr} (h : ExecEffect s i t) : t.replies = s.replies ∧ t.draws = s.draws := by
  cases h with
  | showFrame => exact ⟨(show_frame s).replies, (show_frame s).draws⟩
  | _ => exact ⟨rfl, rfl⟩

theorem ExecEffect.r1_eq {i : Instr} (h : ExecEffect s i t) (hi : i ≠ .dims) : t.r1 = s.r1 := by
  cases h with
  | dims => contradiction
  | showFrame => exact (show_frame s).r1
  | _ => rfl

theorem ExecEffect.r0_eq {i : Instr} (h : ExecEffect s i t) (hi : i = .pset ∨ i = .showFrame) : t.r0 = s.r0 := by
  cases h with
  | result hpset _ hshow => exact absurd hi (not_or.mpr ⟨hpset, hshow⟩)
  | dims => simp at hi
  | showFrame => exact (show_frame s).r0
  | _ => rfl

theorem ExecEffect.grid_eq {i : Instr} (h : ExecEffect s i t) (hi : i ≠ .pset) : t.grid = s.grid := by
  cases h with
  | pset => contradiction
  | showFrame => exact (show_frame s).grid
  | _ => rfl

/-- The display side belongs to SHOW, and every other command ends in its own step. -/
theorem ExecEffect.display_eq {i : Instr} (h : ExecEffect s i t) (hi : i ≠ .showFrame) :
    t.af = s.af ∧ t.fb = s.fb ∧ t.cb = s.cb ∧ t.wire = s.wire ∧ t.transport = s.transport ∧ t.drv = .idle := by
  cases h with
  | showFrame => contradiction
  | _ => exact ⟨rfl, rfl, rfl, rfl, rfl, rfl⟩

/-- Settles O50, field by field over the cases of what a command can do. -/
theorem eachStateHasItsOneWriter : Obligations.EachStateHasItsOneWriter := by
  unfold Obligations.EachStateHasItsOneWriter
  intro i s t hexec
  have h := effect_of_exec hexec
  exact ⟨h.operands_eq, ⟨h.params_eq, h.host_eq, h.histories_eq⟩, h.r1_eq, h.r0_eq, h.grid_eq, h.display_eq⟩

theorem HostEffect.host_eq {e : HostEvent} (h : HostEffect s e t) : t.host = s.host := by
  cases h with
  | command _ hexec => exact hexec.host_eq
  | _ => rfl

/-- Settles O12: the step takes the event off the queue, and its effect leaves the rest of the queue alone. -/
theorem eachAccessIsTakenOnce : Obligations.EachAccessIsTakenOnce := by
  unfold Obligations.EachAccessIsTakenOnce
  intro s t e rest hd hh h
  rw [step_hostEvent hd hh] at h
  exact (effect_of_hostEvent h).host_eq

theorem HostEffect.params_eq {e : HostEvent} (h : HostEffect s e t) : t.params = s.params := by
  cases h with
  | command _ hexec => exact hexec.params_eq
  | _ => rfl

/-- Settles O35: no host event writes the constants, and neither an answer nor a reset does. -/
theorem parametersNeverChange : Obligations.ParametersNeverChange := by
  unfold Obligations.ParametersNeverChange
  intro s t h
  cases effect_of_step h with
  | hold => rfl
  | host _ _ heffect => exact heffect.params_eq
  | wait => rfl
  | abort => rfl
  | answer => exact (transportAnswer_taken_frame _ _ s _).params

/-! ## Who changes the grid -/

theorem resetEvent_cell (s : State) (j : Fin Config.nCell) : s.resetEvent.grid.get j = 0 :=
  Table.get_replicate 0 j

/-- A command that changes the grid is a PSET of a cell in bounds (`41_pixelgrid.md` rules R130, R135). -/
theorem ExecEffect.grid_changed {i : Instr} (h : ExecEffect s i t) (hne : t.grid ≠ s.grid) :
    i = .pset ∧ ∃ c : Fin Config.nCell,
      c.val = s.a1.toInt * 12 + s.a0.toInt ∧ t.grid = s.grid.set c (s.a2.extractLsb' 0 24) := by
  obtain rfl : i = .pset := by
    by_contra hi
    exact hne (h.grid_eq hi)
  cases h with
  | result hpset => contradiction
  | pset hb => exact ⟨rfl, cellIndex _ _ hb, cellIndex_val hb, rfl⟩
  | outOfBounds => exact absurd rfl hne

/-- A host event that changes the grid is a CMD write that runs such a PSET, or a reset. -/
theorem HostEffect.grid_changed {e : HostEvent} (h : HostEffect s e t) (hne : t.grid ≠ s.grid) :
    (∃ w, e = .write 3 w ∧ decode w = .ok .pset ∧ ∃ c : Fin Config.nCell,
      c.val = s.a1.toInt * 12 + s.a0.toInt ∧ t.grid = s.grid.set c (s.a2.extractLsb' 0 24)) ∨
    (e = .reset ∧ ∀ j, t.grid.get j = 0) := by
  cases h with
  | command hdecode hexec =>
    obtain ⟨rfl, hcell⟩ := hexec.grid_changed hne
    exact .inl ⟨_, rfl, hdecode, hcell⟩
  | reset => exact .inr ⟨rfl, resetEvent_cell s⟩
  | _ => exact absurd rfl hne

/-- Settles O31: of the things a step can do, only a PSET at the host port and a reset at either port touch the
grid. -/
theorem gridChangesByPsetOrResetOnly : Obligations.GridChangesByPsetOrResetOnly := by
  unfold Obligations.GridChangesByPsetOrResetOnly
  intro s t h hne
  cases effect_of_step h with
  | hold => exact absurd rfl hne
  | host hd hh heffect =>
    rcases heffect.grid_changed hne with ⟨w, rfl, hdecode, c, hc, hset⟩ | ⟨rfl, hblack⟩
    · exact .inl ⟨w, _, c, hd, hh, hdecode, hc, hset⟩
    · exact .inr ⟨.inl ⟨hd, _, hh⟩, hblack⟩
  | wait => exact absurd rfl hne
  | abort hd ht => exact .inr ⟨.inr ⟨by simp [hd], _, ht⟩, resetEvent_cell _⟩
  | answer => exact absurd (transportAnswer_taken_frame _ _ s _).grid hne

/-! ## STATUS -/

/-- Concatenation is addition at the place of the upper part. -/
theorem toNat_append_eq_add {m n : Nat} (x : BitVec m) (y : BitVec n) :
    (x ++ y).toNat = x.toNat * 2 ^ n + y.toNat := by
  rw [BitVec.toNat_append, ← Nat.shiftLeft_add_eq_or_of_lt y.isLt, Nat.shiftLeft_eq]

/-- The STATUS word as a number, field by field (`10_state.md` rule R24). -/
theorem statusWord_toNat (s : State) :
    (statusWord s).toNat = s.err.toNat + 16 * s.fstep.toNat + 256 * s.af.toNat := by
  simp only [statusWord, toNat_append_eq_add, BitVec.toNat_ofNat]
  omega

/-- Settles O7: each field is a quotient and remainder of the word as a number. -/
theorem statusWordFields : Obligations.StatusWordFields := by
  unfold Obligations.StatusWordFields
  intro s
  have hread : (hostRead 6 s).toNat = s.err.toNat + 16 * s.fstep.toNat + 256 * s.af.toNat := statusWord_toNat s
  have herr := s.err.isLt
  have hfstep := s.fstep.isLt
  have haf := s.af.isLt
  refine ⟨?err, ?fstep, ?bit7, ?af, ?high⟩ <;> apply BitVec.eq_of_toNat_eq <;>
    rw [BitVec.extractLsb'_toNat, hread, Nat.shiftRight_eq_div_pow]
  case err => omega
  case fstep => omega
  case bit7 => change _ = 0; omega
  case af => omega
  case high => change _ = 0; omega

/-! ## The command at a CMD write -/

/-- A write to CMD at an idle block runs the word (`20_memory.md` rule R54). -/
theorem step_writeCmd {w : Word} {rest : List HostEvent} (hd : s.drv = .idle) (hh : s.host = .write 3 w :: rest) :
    step s = runCommand w { s with host := rest } :=
  step_hostEvent hd hh

theorem runCommand_ok {w : Word} {i : Instr} (h : decode w = .ok i) (s : State) : runCommand w s = exec i s := by
  simp only [runCommand, h]

theorem runCommand_error {w : Word} {e : DecodeError} (h : decode w = .error e) (s : State) :
    runCommand w s = .next (s.raise .illegalCommand) := by
  simp only [runCommand, h]

/-- Settles O9, by what the decoder answers on the word. -/
theorem stepRunsTheDecodedCommand : Obligations.StepRunsTheDecodedCommand := by
  unfold Obligations.StepRunsTheDecodedCommand
  intro s w rest hd hh
  refine ⟨?legal, ?illegal⟩
  case legal =>
    intro i hdecode
    rw [step_writeCmd hd hh, runCommand_ok hdecode]
  case illegal =>
    intro e hdecode
    rw [step_writeCmd hd hh, runCommand_error hdecode]
    simp [State.raise, ErrKind.code, ErrKind.failedStep, hd]

/-- Settles O10: the placed word is the command's own, which decodes to the command. -/
theorem placedWordRunsNext : Obligations.PlacedWordRunsNext := by
  unfold Obligations.PlacedWordRunsNext
  intro s i hwf
  have hdecode : decode (tableWord 32 (encode i).toNat) = .ok i := by rw [tableWord_toNat, decode_encode hwf]
  calc
    step (s.withFetchWord 32 (encode i).toNat)
      = runCommand (tableWord 32 (encode i).toNat) { s with drv := .idle } := step_writeCmd rfl rfl
    _ = exec i { s with drv := .idle } := runCommand_ok hdecode _

/-! ## The wire at reset -/

/-- An idle block has no SHOW in progress. -/
theorem pendingRecords_idle (h : s.drv = .idle) : s.pendingRecords = [] := by
  simp [State.pendingRecords, Driver.answered, h]

/-- Settles O45: nothing has been sent, and no SHOW is in progress. -/
theorem wireInvariantAtReset : Obligations.WireInvariantAtReset := by
  unfold Obligations.WireInvariantAtReset
  refine ⟨⟨[], ?wire⟩, ?cb⟩
  case wire => exact (pendingRecords_idle (s := State.reset) rfl).symm
  case cb => exact fun k hk => nomatch hk

end Machine

end Sys2Proof
end

section
/-! SUPPORT. The host port (`20_memory.md`): the register map (rules R51, R53), the read that changes nothing (rule
R52) and the port that is closed while an operation is outstanding (rule R54). -/

namespace Sys2Proof.Machine

variable {s t : State}

/-! ## The closed port -/

/-- Away from idle a step deals with the transport alone (`20_memory.md` rule R54). -/
theorem StepEffect.hostSide_eq (h : StepEffect s t) (hbusy : s.drv ≠ .idle) :
    t.host = s.host ∧ t.replies = s.replies := by
  cases h with
  | hold hdrv => exact absurd hdrv hbusy
  | host hdrv => exact absurd hdrv hbusy
  | wait => exact ⟨rfl, rfl⟩
  | abort => exact ⟨rfl, rfl⟩
  | @answer k ok rest =>
    have hframe := transportAnswer_taken_frame k ok s rest
    exact ⟨hframe.host, hframe.replies⟩

/-- Settles O13: a transferring block is not idle. -/
theorem hostPortIsClosedDuringTransfer : Obligations.HostPortIsClosedDuringTransfer := by
  unfold Obligations.HostPortIsClosedDuringTransfer
  intro s t k hk h
  exact (effect_of_step h).hostSide_eq (by simp [hk])

/-! ## The register map -/

@[simp] theorem hostRead_status (s : State) : hostRead 6 s = statusWord s := rfl

@[simp] theorem hostWrite_cmd (w : Word) (s : State) : hostWrite 3 w s = runCommand w s := rfl

/-- Registers 4 to 7 take no write (`20_memory.md` rule R53). -/
theorem hostWrite_of_four_le {n : BitVec 3} (hn : 4 ≤ n.toNat) (w : Word) (s : State) :
    hostWrite n w s = .next s := by
  rcases hostWrite_cases n w s with ⟨rfl, -⟩ | ⟨rfl, -⟩ | ⟨rfl, -⟩ | ⟨rfl, -⟩ | ⟨-, h⟩
  case inr.inr.inr.inr => exact h
  all_goals exact absurd hn (by decide)

/-- Settles O6, register by register. -/
theorem hostRegisterMap : Obligations.HostRegisterMap := by
  unfold Obligations.HostRegisterMap
  intro s w
  refine ⟨⟨rfl, rfl, rfl, rfl, rfl, rfl, ?status, rfl⟩, rfl, rfl, rfl, ?legal, ?illegal, ?readOnly⟩
  case status => rw [hostRead_status, statusWord_toNat]
  case legal =>
    intro i hdecode
    rw [hostWrite_cmd, runCommand_ok hdecode]
  case illegal =>
    intro e hdecode
    rw [hostWrite_cmd, runCommand_error hdecode]
    rfl
  case readOnly => exact fun n hn => hostWrite_of_four_le hn w s

/-! ## The read -/

/-- A read at an idle block is taken off the queue and answered (`20_memory.md` rule R52). -/
theorem step_read {n : BitVec 3} {rest : List HostEvent} (hd : s.drv = .idle) (hh : s.host = .read n :: rest) :
    step s = .next (State.answerRead n { s with host := rest }) :=
  step_hostEvent hd hh

/-- No register's word depends on what the host asks for next. -/
theorem hostRead_host (n : BitVec 3) (s : State) (rest : List HostEvent) :
    hostRead n { s with host := rest } = hostRead n s := by
  unfold hostRead
  cases hostReg n <;> rfl

/-- Settles O8: the queue without the read answers the same word. -/
theorem hostReadChangesNoBlockState : Obligations.HostReadChangesNoBlockState := by
  unfold Obligations.HostReadChangesNoBlockState
  intro s n rest hd hh
  rw [step_read hd hh, State.answerRead, hostRead_host]

end Sys2Proof.Machine
end

section
/-! SUPPORT. Format C (`30_encoding.md`): a word is its three fields (rule R81), the decoder said once as a relation
of fields (rules R82, R85, R88), and the words that encode a command. -/

namespace Sys2Proof

/-! ## A word is its fields -/

theorem fieldZero_toNat (w : Word) : (fieldZero w).toNat = w.toNat / 256 := by
  have := w.isLt
  rw [fieldZero, BitVec.extractLsb'_toNat, Nat.shiftRight_eq_div_pow]
  omega

theorem fieldIdx_toNat (w : Word) : (fieldIdx w).toNat = w.toNat / 16 % 16 := by
  rw [fieldIdx, BitVec.extractLsb'_toNat, Nat.shiftRight_eq_div_pow]

theorem fieldOpc_toNat (w : Word) : (fieldOpc w).toNat = w.toNat % 16 := by
  rw [fieldOpc, BitVec.extractLsb'_toNat, Nat.shiftRight_zero]

/-- The three fields fill the word (`30_encoding.md` rule R81). -/
theorem append_fields (w : Word) : (fieldZero w ++ fieldIdx w) ++ fieldOpc w = w := by
  have hupper : fieldZero w ++ fieldIdx w = w.extractLsb' 4 28 :=
    BitVec.extractLsb'_append_extractLsb'_eq_extractLsb' (by decide)
  rw [hupper]
  exact BitVec.extractLsb'_append_extractLsb'

theorem word_eq_iff_fields {u w : Word} :
    u = w ↔ fieldOpc u = fieldOpc w ∧ fieldIdx u = fieldIdx w ∧ fieldZero u = fieldZero w := by
  refine ⟨?same, ?fields⟩
  case same =>
    rintro rfl
    exact ⟨rfl, rfl, rfl⟩
  case fields =>
    rintro ⟨hopc, hidx, hzero⟩
    rw [← append_fields u, hopc, hidx, hzero, append_fields]

/-- A mask acts on each field by its own part. -/
theorem fields_and (w m : Word) :
    fieldOpc (w &&& m) = fieldOpc w &&& fieldOpc m ∧ fieldIdx (w &&& m) = fieldIdx w &&& fieldIdx m ∧
      fieldZero (w &&& m) = fieldZero w &&& fieldZero m :=
  ⟨BitVec.extractLsb'_and, BitVec.extractLsb'_and, BitVec.extractLsb'_and⟩

theorem eq_encode_iff_fields {w : Word} {i : Instr} :
    w = encode i ↔ fieldOpc w = i.opcode ∧ fieldIdx w = i.index ∧ fieldZero w = 0 := by
  obtain ⟨hopc, hidx, hzero⟩ := encode_fields i
  rw [word_eq_iff_fields, hopc, hidx, hzero]

/-! ## The branches of the decoder -/

section Branches

variable {w : Word} (hzero : fieldZero w = 0)
include hzero

theorem decode_namedOpcode (hopc : fieldOpc w = 6) :
    decode w = if (fieldIdx w).toNat ≤ 9 then .ok (.named (fieldIdx w)) else .error .namedIndexTooLarge := by
  rw [decode, if_neg (not_not.mpr hzero), if_pos hopc]

theorem decode_strayIndex (hopc : fieldOpc w ≠ 6) (hidx : fieldIdx w ≠ 0) : decode w = .error .strayIndex := by
  rw [decode, if_neg (not_not.mpr hzero), if_neg hopc, if_pos hidx]

theorem decode_plainOpcode (hopc : fieldOpc w ≠ 6) (hidx : fieldIdx w = 0) :
    decode w = decodeOpcode (fieldOpc w) := by
  rw [decode, if_neg (not_not.mpr hzero), if_neg hopc, if_neg (not_not.mpr hidx)]

end Branches

/-- The opcode rows that need index 0, read backwards: each has the opcode of its command (rule R82). -/
theorem fields_of_decodeOpcode {opc : BitVec 4} {i : Instr} (h : decodeOpcode opc = .ok i) :
    i.wf = true ∧ opc = i.opcode ∧ i.index = 0 := by
  unfold decodeOpcode at h
  split at h
  case h_11 => cases h
  all_goals
    next hopc =>
    cases h
    exact ⟨rfl, BitVec.eq_of_toNat_eq hopc, rfl⟩

/-- The reserved opcodes, with 6 among the rows that this last distinction leaves out (rule R85). -/
theorem decodeOpcode_error_iff {opc : BitVec 4} (h : opc ≠ 6) :
    (∃ e, decodeOpcode opc = .error e) ↔ opc.toNat ∈ [0x0, 0xC, 0xD, 0xE, 0xF] := by
  have hreserved : ∀ opc : BitVec 4, opc ≠ 6 →
      ((decodeOpcode opc).toBool = false ↔ opc.toNat ∈ [0x0, 0xC, 0xD, 0xE, 0xF]) := by decide
  rw [← hreserved opc h]
  cases decodeOpcode opc <;> simp [Except.toBool]

/-! ## What the decoder answers -/

theorem fields_of_decode {w : Word} {i : Instr} (h : decode w = .ok i) :
    i.wf = true ∧ fieldOpc w = i.opcode ∧ fieldIdx w = i.index ∧ fieldZero w = 0 := by
  have hzero := decode_ok_fieldZero h
  by_cases hopc : fieldOpc w = 6
  · rw [decode_namedOpcode hzero hopc] at h
    split at h
    case isTrue hle =>
      cases h
      exact ⟨decide_eq_true hle, hopc, rfl, hzero⟩
    case isFalse => cases h
  · by_cases hidx : fieldIdx w = 0
    · rw [decode_plainOpcode hzero hopc hidx] at h
      obtain ⟨hwf, hrow, hindex⟩ := fields_of_decodeOpcode h
      exact ⟨hwf, hrow, hidx.trans hindex.symm, hzero⟩
    · simp [decode_strayIndex hzero hopc hidx] at h

/-- A command has one word, and no other word decodes to it (rule R88). -/
theorem decode_eq_ok_iff {w : Word} {i : Instr} : decode w = .ok i ↔ i.wf = true ∧ w = encode i := by
  refine ⟨?decoded, ?encoded⟩
  case decoded =>
    intro h
    obtain ⟨hwf, hfields⟩ := fields_of_decode h
    exact ⟨hwf, eq_encode_iff_fields.mpr hfields⟩
  case encoded =>
    rintro ⟨hwf, rfl⟩
    exact decode_encode hwf

/-- The four ways a word can be illegal, by its fields (rule R85). -/
theorem decode_error_iff {w : Word} :
    (∃ e, decode w = .error e) ↔
      fieldZero w ≠ 0 ∨ (fieldOpc w).toNat ∈ [0x0, 0xC, 0xD, 0xE, 0xF] ∨
      (fieldOpc w ≠ 6 ∧ fieldIdx w ≠ 0) ∨ (fieldOpc w = 6 ∧ 10 ≤ (fieldIdx w).toNat) := by
  by_cases hzero : fieldZero w = 0
  · by_cases hopc : fieldOpc w = 6
    · rw [decode_namedOpcode hzero hopc]
      split
      case isTrue hle =>
        have hlt : ¬ 10 ≤ (fieldIdx w).toNat := by omega
        simp [hzero, hopc, hlt]
      case isFalse hgt => exact iff_of_true ⟨_, rfl⟩ (.inr (.inr (.inr ⟨hopc, by omega⟩)))
    · by_cases hidx : fieldIdx w = 0
      · rw [decode_plainOpcode hzero hopc hidx, decodeOpcode_error_iff hopc]
        simp [hzero, hidx]
      · exact iff_of_true ⟨_, decode_strayIndex hzero hopc hidx⟩ (.inr (.inr (.inl ⟨hopc, hidx⟩)))
  · exact iff_of_true ⟨_, decode_nonzeroHighBits hzero⟩ (.inl hzero)

/-! ## The statements -/

/-- Settles O3: the fields of a command's word are the command's, and the decoder reads them back. -/
theorem decodeEncodeRoundTrip : Obligations.DecodeEncodeRoundTrip := by
  unfold Obligations.DecodeEncodeRoundTrip
  exact fun _ => decode_encode

/-- Settles O4: only a command's own word decodes to it. -/
theorem encodeDecodeRoundTrip : Obligations.EncodeDecodeRoundTrip := by
  unfold Obligations.EncodeDecodeRoundTrip
  intro w i h
  obtain ⟨hwf, hword⟩ := decode_eq_ok_iff.mp h
  exact ⟨hwf, hword.symm⟩

/-- A row of the opcode map whose mask is all ones (rule R82). -/
theorem decode_eq_ok_iff_match {w : Word} {i : Instr} (hwf : i.wf = true) :
    decode w = .ok i ↔ w &&& 0xFFFFFFFF = encode i := by
  have hmask : w &&& 0xFFFFFFFF = w := BitVec.and_allOnes
  rw [hmask, decode_eq_ok_iff, and_iff_right hwf]

/-- NAMED's mask leaves the index out (rule R82). -/
theorem namedMask_iff {w : Word} : w &&& 0xFFFFFF0F = 0x00000006 ↔ fieldOpc w = 6 ∧ fieldZero w = 0 := by
  obtain ⟨hopc, hidx, hzero⟩ := fields_and w 0xFFFFFF0F
  have hopc : fieldOpc (w &&& 0xFFFFFF0F) = fieldOpc w := hopc.trans BitVec.and_allOnes
  have hidx : fieldIdx (w &&& 0xFFFFFF0F) = 0 := hidx.trans BitVec.and_zero
  have hzero : fieldZero (w &&& 0xFFFFFF0F) = fieldZero w := hzero.trans BitVec.and_allOnes
  rw [word_eq_iff_fields, hopc, hidx, hzero]
  exact and_congr_right fun _ => and_iff_right rfl

/-- The row of NAMED (rules R82, R83). -/
theorem decode_eq_ok_named_iff {w : Word} {idx : BitVec 4} :
    decode w = .ok (.named idx) ↔
      w &&& 0xFFFFFF0F = 0x00000006 ∧ idx.toNat = w.toNat / 16 % 16 ∧ idx.toNat ≤ 9 := by
  have hwf : (Instr.named idx).wf = true ↔ idx.toNat ≤ 9 := decide_eq_true_iff
  have hindex : fieldIdx w = idx ↔ idx.toNat = w.toNat / 16 % 16 := by
    rw [← fieldIdx_toNat, eq_comm, BitVec.toNat_inj]
  rw [decode_eq_ok_iff, eq_encode_iff_fields, hwf, namedMask_iff]
  simp only [Instr.opcode, Instr.index, hindex]
  tauto

/-- Settles O2: a row with a full mask is one word, and NAMED's row is one word for each index up to 9. -/
theorem opcodeMapSelectsByMatchAndMask : Obligations.OpcodeMapSelectsByMatchAndMask := by
  unfold Obligations.OpcodeMapSelectsByMatchAndMask
  intro w
  exact ⟨decode_eq_ok_iff_match rfl, decode_eq_ok_iff_match rfl, decode_eq_ok_iff_match rfl,
    decode_eq_ok_iff_match rfl, decode_eq_ok_iff_match rfl, fun _ => decode_eq_ok_named_iff,
    decode_eq_ok_iff_match rfl, decode_eq_ok_iff_match rfl, decode_eq_ok_iff_match rfl,
    decode_eq_ok_iff_match rfl, decode_eq_ok_iff_match rfl⟩

/-- Settles O1: each of the words written out is a command's own word. -/
theorem decodeReadsTheCommandWords : Obligations.DecodeReadsTheCommandWords := by
  unfold Obligations.DecodeReadsTheCommandWords
  decide

/-- The commands there are: ten without an index, and NAMED at each index from 0 to 9. -/
def legalCommands : List Instr :=
  [.packrgb, .unpackr, .unpackg, .unpackb, .hsl, .pset, .pget, .dims, .gamma, .showFrame] ++
    (List.range 10).map fun n => .named (BitVec.ofNat 4 n)

theorem mem_legalCommands {i : Instr} : i ∈ legalCommands ↔ i.wf = true := by
  cases i with
  | named idx =>
    revert idx
    decide
  | _ => decide

theorem mem_legalWords {w : Word} : w ∈ legalCommands.map encode ↔ ∃ i, decode w = .ok i := by
  simp only [List.mem_map, mem_legalCommands, decode_eq_ok_iff, eq_comm (a := w)]

namespace Machine

/-- Settles O5: the illegal words by their fields, the error they raise, and the words of the 20 commands. -/
theorem illegalWordsRaiseIllegalCommand : Obligations.IllegalWordsRaiseIllegalCommand := by
  unfold Obligations.IllegalWordsRaiseIllegalCommand
  refine ⟨?illegal, ?effect, ?legal, ?zero⟩
  case illegal =>
    intro w
    simp only [decode_error_iff, ne_eq, ← BitVec.toNat_inj, fieldZero_toNat, fieldIdx_toNat, fieldOpc_toNat]
    rfl
  case effect =>
    rintro w s ⟨e, h⟩
    rw [hostWrite_cmd, runCommand_error h]
    rfl
  case legal => exact ⟨legalCommands.map encode, by decide, by decide, fun _ => mem_legalWords⟩
  case zero => exact ⟨.reservedOpcode, by decide⟩

end Machine

end Sys2Proof
end

section
/-! SUPPORT. A command at the host port: the operands written before it (`30_encoding.md` rule R90), the step that
always answers (rule R86), and the operand bits that a command does not read (rule R84). -/

namespace Sys2Proof.Machine

/-! ## Steps and runs -/

/-- Settles O15: each thing a step can do leads to a next state. -/
theorem everyStepAnswersANextState : Obligations.EveryStepAnswersANextState := by
  unfold Obligations.EveryStepAnswersANextState
  intro s
  obtain ⟨t, h, -⟩ := step_effect s
  exact ⟨t, h⟩

theorem run_one (s : State) : core.run 1 s = step s := by
  obtain ⟨t, h, -⟩ := step_effect s
  exact (run_succ h 0).trans h.symm

/-- A write to an operand register at an idle block (`20_memory.md` rule R53). -/
theorem step_writeA0 {s : State} {w : Word} {rest : List HostEvent} (hd : s.drv = .idle)
    (hh : s.host = .write 0 w :: rest) : step s = .next { s with a0 := w, host := rest } :=
  step_hostEvent hd hh

theorem step_writeA1 {s : State} {w : Word} {rest : List HostEvent} (hd : s.drv = .idle)
    (hh : s.host = .write 1 w :: rest) : step s = .next { s with a1 := w, host := rest } :=
  step_hostEvent hd hh

theorem step_writeA2 {s : State} {w : Word} {rest : List HostEvent} (hd : s.drv = .idle)
    (hh : s.host = .write 2 w :: rest) : step s = .next { s with a2 := w, host := rest } :=
  step_hostEvent hd hh

theorem step_command {s : State} {w : Word} {i : Instr} {rest : List HostEvent} (hd : s.drv = .idle)
    (hh : s.host = .write 3 w :: rest) (hdecode : decode w = .ok i) : step s = exec i { s with host := rest } :=
  (step_writeCmd hd hh).trans (runCommand_ok hdecode _)

/-- Settles O11: three steps load the operands, and the fourth runs the command. -/
theorem operandLoadsThenCommand : Obligations.OperandLoadsThenCommand := by
  unfold Obligations.OperandLoadsThenCommand
  intro s x y z w i rest hd hdecode hh
  have hload0 : step s = .next { s with a0 := x, host := .write 1 y :: .write 2 z :: .write 3 w :: rest } :=
    step_writeA0 hd hh
  have hload1 : step { s with a0 := x, host := .write 1 y :: .write 2 z :: .write 3 w :: rest } =
      .next { s with a0 := x, a1 := y, host := .write 2 z :: .write 3 w :: rest } := step_writeA1 hd rfl
  have hload2 : step { s with a0 := x, a1 := y, host := .write 2 z :: .write 3 w :: rest } =
      .next { s with a0 := x, a1 := y, a2 := z, host := .write 3 w :: rest } := step_writeA2 hd rfl
  have hcommand : step { s with a0 := x, a1 := y, a2 := z, host := .write 3 w :: rest } =
      exec i { s with a0 := x, a1 := y, a2 := z, host := rest } := step_command hd rfl hdecode
  have hloaded := ((run_succ hload0 3).trans (run_succ hload1 2)).trans (run_succ hload2 1)
  exact hloaded.trans ((run_one _).trans hcommand)

/-! ## The bits an operand form reads -/

theorem extractLsb'_and_of_allOnes {m n : Nat} (w mask : BitVec m) (h : mask.extractLsb' 0 n = .allOnes n) :
    (w &&& mask).extractLsb' 0 n = w.extractLsb' 0 n := by
  rw [BitVec.extractLsb'_and, h, BitVec.and_allOnes]

theorem byteOperand_congr {u w : Word} (h : u &&& 0xFF = w &&& 0xFF) : byteOperand u = byteOperand w :=
  calc
    byteOperand u = byteOperand (u &&& 0xFF) := (extractLsb'_and_of_allOnes u 0xFF (by decide)).symm
    _ = byteOperand (w &&& 0xFF) := congrArg byteOperand h
    _ = byteOperand w := extractLsb'_and_of_allOnes w 0xFF (by decide)

theorem colorOperand_congr {u w : Word} (h : u &&& 0xFFFFFF = w &&& 0xFFFFFF) : colorOperand u = colorOperand w :=
  calc
    colorOperand u = colorOperand (u &&& 0xFFFFFF) := (extractLsb'_and_of_allOnes u 0xFFFFFF (by decide)).symm
    _ = colorOperand (w &&& 0xFFFFFF) := congrArg colorOperand h
    _ = colorOperand w := extractLsb'_and_of_allOnes w 0xFFFFFF (by decide)

/-- Masking a signed operand to 8 bits keeps its low byte (`40_colorcodec.md` rule R100). -/
theorem ofInt_sint (w : Word) : BitVec.ofInt 8 (sint w) = byteOperand w :=
  calc
    BitVec.ofInt 8 (sint w) = w.setWidth 8 := BitVec.signExtend_eq_setWidth_of_le w (by decide)
    _ = byteOperand w := BitVec.setWidth_eq_extractLsb' (by decide)

theorem pack_sint (u v w : Word) :
    pack (sint u) (sint v) (sint w) = (byteOperand u ++ byteOperand v) ++ byteOperand w := by
  simp only [pack, ofInt_sint]

/-! ## Commands with other operands -/

/-- The state with its operand registers replaced. -/
def State.withOperands (x y z : Word) (s : State) : State := { s with a0 := x, a1 := y, a2 := z }

/-- The command does to the state with the operands `x`, `y`, `z` what it does to the state itself, and leaves those
operands where they were. -/
def OperandsIgnored (i : Instr) (s : State) (x y z : Word) : Prop :=
  ∃ t, exec i s = .next t ∧ exec i (s.withOperands x y z) = .next (t.withOperands x y z)

section

variable {s : State} {x y z : Word}

/-- A command that only puts a value in R0 reads no more than the value does. -/
theorem operandsIgnored_of_result {i : Instr} {v : State → Word}
    (hexec : ∀ s, exec i s = .next (s.writeR0 (v s)).complete) (hv : v (s.withOperands x y z) = v s) :
    OperandsIgnored i s x y z := by
  refine ⟨_, hexec s, ?_⟩
  rw [hexec, hv]
  rfl

theorem packrgb_operandsIgnored (hx : x &&& 0xFF = s.a0 &&& 0xFF) (hy : y &&& 0xFF = s.a1 &&& 0xFF)
    (hz : z &&& 0xFF = s.a2 &&& 0xFF) : OperandsIgnored .packrgb s x y z := by
  refine operandsIgnored_of_result (fun _ => rfl) (congrArg zext32 (?_ : pack (sint x) (sint y) (sint z) = _))
  rw [pack_sint, pack_sint, byteOperand_congr hx, byteOperand_congr hy, byteOperand_congr hz]

theorem named_operandsIgnored (idx : BitVec 4) : OperandsIgnored (.named idx) s x y z := by
  by_cases h : idx.toNat < 10
  · exact ⟨_, dif_pos h, dif_pos h⟩
  · exact ⟨_, dif_neg h, dif_neg h⟩

theorem execPset_inBounds (h : inBounds (sint s.a0) (sint s.a1)) :
    execPset s = .next { s with grid := s.grid.set (cellIndex _ _ h) (colorOperand s.a2) }.complete := by
  simp only [execPset, gridWrite_inBounds h]

theorem execPset_outside (h : ¬ inBounds (sint s.a0) (sint s.a1)) : execPset s = .next (s.raise .outOfBounds) := by
  simp only [execPset, gridWrite_outside h]

theorem execPget_inBounds (h : inBounds (sint s.a0) (sint s.a1)) :
    execPget s = .next (s.writeR0 (zext32 (s.grid.get (cellIndex _ _ h)))).complete := by
  simp only [execPget, gridRead_inBounds h]

theorem execPget_outside (h : ¬ inBounds (sint s.a0) (sint s.a1)) : execPget s = .next (s.raise .outOfBounds) := by
  simp only [execPget, gridRead_outside h]

theorem pset_operandsIgnored (hz : colorOperand z = colorOperand s.a2) :
    OperandsIgnored .pset s s.a0 s.a1 z := by
  by_cases h : inBounds (sint s.a0) (sint s.a1)
  · refine ⟨_, execPset_inBounds h, (execPset_inBounds (s := s.withOperands s.a0 s.a1 z) h).trans ?_⟩
    rw [show colorOperand (s.withOperands s.a0 s.a1 z).a2 = colorOperand s.a2 from hz]
    rfl
  · exact ⟨_, execPset_outside h, execPset_outside (s := s.withOperands s.a0 s.a1 z) h⟩

theorem pget_operandsIgnored : OperandsIgnored .pget s s.a0 s.a1 z := by
  by_cases h : inBounds (sint s.a0) (sint s.a1)
  · exact ⟨_, execPget_inBounds h, execPget_inBounds (s := s.withOperands s.a0 s.a1 z) h⟩
  · exact ⟨_, execPget_outside h, execPget_outside (s := s.withOperands s.a0 s.a1 z) h⟩

/-! ## SHOW reads no operand -/

/-- An answer reads and writes no operand register (`43_display.md` rules R153 to R158). -/
theorem transportAnswer_withOperands (k : OpNum) (ok : Bool) (s : State) :
    transportAnswer k ok (s.withOperands x y z) = (transportAnswer k ok s).withOperands x y z := by
  cases ok with
  | false => cases k <;> rfl
  | true => cases k <;> rfl

theorem transferStep_of_no_answer {s : State} (h : ¬ ∃ ok rest, s.transport = .answer ok :: rest) :
    transferStep s = s := by
  rcases transferStep_cases s with hstep | ⟨-, ok, rest, -, ht, -⟩
  · exact hstep
  · exact absurd ⟨ok, rest, ht⟩ h

theorem transferStep_withOperands (s : State) :
    transferStep (s.withOperands x y z) = (transferStep s).withOperands x y z := by
  rcases hd : s.drv with _ | k
  · rw [transferStep_idle hd, transferStep_idle (s := s.withOperands x y z) hd]
  · by_cases ht : ∃ ok rest, s.transport = .answer ok :: rest
    · obtain ⟨ok, rest, ht⟩ := ht
      rw [transferStep_answer hd ht, transferStep_answer (s := s.withOperands x y z) hd ht]
      exact transportAnswer_withOperands k ok { s with transport := rest }
    · rw [transferStep_of_no_answer ht, transferStep_of_no_answer (s := s.withOperands x y z) ht]

theorem runTransfer_withOperands : ∀ (n : Nat) (s : State),
    runTransfer n (s.withOperands x y z) = (runTransfer n s).withOperands x y z
  | 0, _ => rfl
  | n + 1, s => by
    rw [runTransfer, transferStep_withOperands, runTransfer_withOperands n]
    rfl

theorem showFrame_operandsIgnored : OperandsIgnored .showFrame s x y z :=
  ⟨_, rfl, congrArg Host.Outcome.next (runTransfer_withOperands 4 (showStart s))⟩

end

/-- Settles O51, command by command: each reads of its operands no more than the bits on which the runs agree. -/
theorem ignoredOperandsDoNotMatter : Obligations.IgnoredOperandsDoNotMatter := by
  unfold Obligations.IgnoredOperandsDoNotMatter
  intro i s t x y z hexec hagree
  have hignored : OperandsIgnored i s x y z := by
    cases i with
    | packrgb =>
      obtain ⟨hx, hy, hz⟩ := hagree
      exact packrgb_operandsIgnored hx hy hz
    | unpackr =>
      exact operandsIgnored_of_result (fun _ => rfl) (congrArg (fun c => zext32 (red c)) (colorOperand_congr hagree))
    | unpackg =>
      exact operandsIgnored_of_result (fun _ => rfl) (congrArg (fun c => zext32 (green c)) (colorOperand_congr hagree))
    | unpackb =>
      exact operandsIgnored_of_result (fun _ => rfl) (congrArg (fun c => zext32 (blue c)) (colorOperand_congr hagree))
    | hsl =>
      obtain ⟨rfl, rfl, rfl⟩ := hagree
      exact operandsIgnored_of_result (fun _ => rfl) rfl
    | named idx => exact named_operandsIgnored idx
    | pset =>
      obtain ⟨rfl, rfl, hz⟩ := hagree
      exact pset_operandsIgnored (colorOperand_congr hz)
    | pget =>
      obtain ⟨rfl, rfl⟩ := hagree
      exact pget_operandsIgnored
    | dims => exact ⟨_, rfl, rfl⟩
    | gamma =>
      exact operandsIgnored_of_result (fun _ => rfl)
        (congrArg (fun b => zext32 (gammaLookup s.params b)) (byteOperand_congr hagree))
    | showFrame => exact showFrame_operandsIgnored
  obtain ⟨u, hu, hother⟩ := hignored
  obtain rfl : u = t := by simpa [hu] using hexec
  exact hother

end Sys2Proof.Machine
end

section
/-! SUPPORT. Colours and their channels (`40_colorcodec.md` rules R100 to R104, R109 to R113): a packed colour as a
number, the channels of a register, and the codec commands other than HSL. -/

namespace Sys2Proof.Machine

/-! ## Packing -/

/-- A packed colour as a number: each integer modulo 256, red on top (`40_colorcodec.md` rule R100). -/
theorem pack_toNat (r g b : Int) :
    (pack r g b).toNat = (r % 256 * 65536 + g % 256 * 256 + b % 256).toNat := by
  simp only [pack, toNat_append_eq_add, BitVec.toNat_ofInt]
  omega

/-- The colour with one integer in every channel (rule R112). -/
theorem pack_self_toNat (a : Int) : (pack a a a).toNat = (a % 256).toNat * 0x010101 := by
  rw [pack_toNat]
  omega

/-- A colour is the pack of its channels (rule R111). -/
theorem pack_channels (c : Color) : pack (red c).toNat (green c).toNat (blue c).toNat = c := by
  have hupper : red c ++ green c = c.extractLsb' 8 16 :=
    BitVec.extractLsb'_append_extractLsb'_eq_extractLsb' (by decide)
  simp only [pack, BitVec.ofInt_natCast, BitVec.ofNat_toNat, BitVec.setWidth_eq]
  rw [hupper]
  exact BitVec.extractLsb'_append_extractLsb'

/-- Settles O24: the three equal channels as a number, and 256 is 0 modulo 256. -/
theorem packingTruncates : Obligations.PackingTruncates := by
  unfold Obligations.PackingTruncates
  exact ⟨pack_self_toNat, by decide⟩

/-! ## Colours and bytes in a register -/

/-- A result of at most 32 bits keeps its value in a register (`20_memory.md` rule R56). -/
theorem zext32_toNat {n : Nat} (v : BitVec n) (hn : n ≤ 32) : (zext32 v).toNat = v.toNat :=
  BitVec.toNat_setWidth_of_le hn

/-- A packed colour in a register, as a number. -/
theorem zext32_pack (r g b : Int) :
    zext32 (pack r g b) = BitVec.ofInt 32 (r % 256 * 65536 + g % 256 * 256 + b % 256) := by
  apply BitVec.eq_of_toNat_eq
  rw [zext32_toNat _ (by decide), pack_toNat, BitVec.toNat_ofInt]
  omega

/-- Packed operands in a register: a zero byte, then their low bytes (rule R101). -/
theorem zext32_pack_sint (u v w : Word) :
    zext32 (pack (sint u) (sint v) (sint w)) = ((0#8 ++ byteOperand u) ++ byteOperand v) ++ byteOperand w := by
  rw [pack_sint]
  apply BitVec.eq_of_toNat_eq
  rw [zext32_toNat _ (by decide)]
  simp only [toNat_append_eq_add, BitVec.toNat_ofNat]
  omega

/-- Eight bits of a word in a register of their own are a quotient modulo 256. -/
theorem zext32_extractLsb' (w : Word) (k : Nat) :
    zext32 (w.extractLsb' k 8) = BitVec.ofNat 32 (w.toNat / 2 ^ k % 256) := by
  apply BitVec.eq_of_toNat_eq
  rw [zext32_toNat _ (by decide), BitVec.extractLsb'_toNat, Nat.shiftRight_eq_div_pow, BitVec.toNat_ofNat]
  omega

/-- A channel of a Color operand lies in the register at the channel's own place (rules R102 to R104). -/
theorem zext32_channel (w : Word) {k : Nat} (hk : k + 8 ≤ 24) :
    zext32 ((colorOperand w).extractLsb' k 8) = BitVec.ofNat 32 (w.toNat / 2 ^ k % 256) := by
  rw [colorOperand, BitVec.extractLsb'_extractLsb'_of_le hk, zext32_extractLsb']

/-- A colour survives the way through a register (`20_memory.md` rule R56). -/
theorem colorOperand_zext32 (c : Color) : colorOperand (zext32 c) = c := by
  rw [colorOperand, ← BitVec.setWidth_eq_extractLsb' (by decide), zext32,
    BitVec.setWidth_setWidth_of_le c (by decide), BitVec.setWidth_eq]

/-- The low byte in a register of its own is the word under the mask 0xFF. -/
theorem zext32_byteOperand (w : Word) : zext32 (byteOperand w) = w &&& 0xFF := by
  apply BitVec.eq_of_toNat_eq
  rw [zext32_toNat _ (by decide), byteOperand, BitVec.extractLsb'_toNat, Nat.shiftRight_zero, BitVec.toNat_and]
  have hmask : w.toNat &&& 0xFF = w.toNat % 256 := Nat.and_two_pow_sub_one_eq_mod w.toNat 8
  exact hmask.symm

/-! ## The commands -/

/-- A command that puts a value in R0 and completes changes R0, ERR, FSTEP and the driver alone. -/
theorem exec_of_result {i : Instr} {s : State} {v w : Word} (h : exec i s = .next (s.writeR0 v).complete)
    (hv : v = w) : exec i s = .next { s with r0 := w, err := 0, fstep := 0, drv := .idle } := by
  subst hv
  exact h

/-- Settles O16: the packed operands as a number, and as a concatenation of bytes. -/
theorem packrgbResult : Obligations.PackrgbResult := by
  unfold Obligations.PackrgbResult
  exact ⟨decode_encode (i := .packrgb) rfl,
    fun _ => ⟨exec_of_result rfl (zext32_pack _ _ _), exec_of_result rfl (zext32_pack_sint _ _ _)⟩⟩

/-- Settles O17: each channel of the operand is a quotient modulo 256. -/
theorem unpackResults : Obligations.UnpackResults := by
  unfold Obligations.UnpackResults
  refine ⟨decode_encode (i := .unpackr) rfl, decode_encode (i := .unpackg) rfl, decode_encode (i := .unpackb) rfl,
    fun s => ⟨?red, ?green, ?blue⟩⟩
  case red => exact exec_of_result rfl (zext32_channel s.a0 (by decide))
  case green => exact exec_of_result rfl (zext32_channel s.a0 (by decide))
  case blue =>
    have hblue := zext32_channel s.a0 (k := 0) (by decide)
    rw [Nat.pow_zero, Nat.div_one] at hblue
    exact exec_of_result rfl hblue

/-- Settles O23: the colour goes through the register unchanged, and its channels are the low bytes packed into it. -/
theorem unpackAfterPackGivesTheChannels : Obligations.UnpackAfterPackGivesTheChannels := by
  unfold Obligations.UnpackAfterPackGivesTheChannels
  refine ⟨fun s => ⟨_, rfl, ⟨_, rfl, ?red⟩, ⟨_, rfl, ?green⟩, ⟨_, rfl, ?blue⟩⟩, pack_channels⟩
  all_goals rw [State.complete_r0, State.writeR0_r0, State.complete_r0, State.writeR0_r0, colorOperand_zext32]
  case red => rw [red_pack, ofInt_sint, zext32_byteOperand]
  case green => rw [green_pack, ofInt_sint, zext32_byteOperand]
  case blue => rw [blue_pack, ofInt_sint, zext32_byteOperand]

/-- The word of NAMED, written as rule R110 writes it. -/
theorem named_word (idx : BitVec 4) : BitVec.ofNat 32 (0x06 + 16 * idx.toNat) = encode (.named idx) := by
  revert idx
  decide

/-- Settles O22: the word is NAMED's own; a legal index selects its entry, and one above 9 makes the word illegal. -/
theorem namedResult : Obligations.NamedResult := by
  unfold Obligations.NamedResult
  intro idx s
  rw [named_word]
  refine ⟨?legal, ?illegal⟩
  case legal =>
    intro h
    have hwf : (Instr.named idx).wf = true := decide_eq_true (by omega)
    exact ⟨decode_encode hwf, dif_pos h⟩
  case illegal =>
    intro h
    obtain ⟨hopc, hidx, -⟩ := encode_fields (.named idx)
    refine decode_error_iff.mpr (.inr (.inr (.inr ⟨hopc, ?_⟩)))
    rwa [hidx]

/-- Settles O25: of all that a command can do, a well-formed codec command can only put a result in R0. -/
theorem codecCommandsNeverFail : Obligations.CodecCommandsNeverFail := by
  unfold Obligations.CodecCommandsNeverFail
  intro i s hwf hcodec
  obtain ⟨t, hexec, heffect⟩ := exec_effect i s
  refine ⟨t, hexec, ?_⟩
  cases heffect with
  | result => exact ⟨rfl, rfl⟩
  | namedIllegal h =>
    have hle := of_decide_eq_true hwf
    omega
  | outOfBounds hi => rcases hi with rfl | rfl <;> simp at hcodec
  | dims => simp at hcodec
  | pset => simp at hcodec
  | showFrame => simp at hcodec

end Sys2Proof.Machine
end

section
/-! SUPPORT. `hsl_color` (`40_colorcodec.md` rules R105 to R108): the range of every intermediate on normalised
inputs, the normalisation itself, and the colours at the ends of the percentages. -/

namespace Sys2Proof.Machine

/-! ## The hue (steps 3 and 4) -/

section Hue

variable {h : Int}

theorem hslSector_range (hpos : 0 ≤ h) (hlt : h < 360) : 0 ≤ hslSector h ∧ hslSector h ≤ 5 := by
  unfold hslSector
  omega

theorem hslSector_rest_range (h : Int) : 0 ≤ h - hslSector h * 60 ∧ h - hslSector h * 60 ≤ 59 := by
  unfold hslSector
  omega

theorem hslFraction_range (h : Int) : 0 ≤ hslFraction h ∧ hslFraction h ≤ 251 := by
  have hrest := hslSector_rest_range h
  unfold hslFraction
  omega

theorem hslTemp_of_even (heven : hslSector h % 2 = 0) : hslTemp h = 256 - hslFraction h := by
  have hfraction := hslFraction_range h
  rw [hslTemp, heven, abs_of_nonpos (by omega)]
  omega

theorem hslTemp_of_odd (hodd : hslSector h % 2 = 1) : hslTemp h = hslFraction h := by
  have hfraction := hslFraction_range h
  rw [hslTemp, hodd, abs_of_nonneg (by omega)]
  omega

theorem hslTemp_range (h : Int) : 0 ≤ hslTemp h ∧ hslTemp h ≤ 256 := by
  have hfraction := hslFraction_range h
  obtain heven | hodd := Int.emod_two_eq_zero_or_one (hslSector h)
  · rw [hslTemp_of_even heven]
    omega
  · rw [hslTemp_of_odd hodd]
    omega

/-- The second-largest component can reach the largest only at the start of an odd sector (rule R107). -/
theorem hslTemp_eq_zero_iff : hslTemp h = 0 ↔ hslSector h % 2 = 1 ∧ hslFraction h = 0 := by
  have hfraction := hslFraction_range h
  obtain heven | hodd := Int.emod_two_eq_zero_or_one (hslSector h)
  · rw [hslTemp_of_even heven]
    omega
  · rw [hslTemp_of_odd hodd, and_iff_right hodd]

end Hue

/-! ## Chroma and offset (steps 2 and 6) -/

/-- How far the luminosity is from the nearer of black and white, doubled: the two slopes that meet at 50. -/
theorem lightnessSpan_eq (l : Int) : 100 - |2 * l - 100| = min (2 * l) (200 - 2 * l) := by
  obtain hdark | hlight := le_total (2 * l) 100
  · rw [abs_of_nonpos (by omega)]
    omega
  · rw [abs_of_nonneg (by omega)]
    omega

section Percents

variable {s l : Int} (hs : 0 ≤ s) (hs' : s ≤ 99) (hl : 0 ≤ l) (hl' : l ≤ 99)
include hs hs' hl hl'

/-- The product in the numerator of the chroma is at most 99 times the span. -/
theorem lightnessSpan_mul_range :
    0 ≤ (100 - |2 * l - 100|) * s ∧ (100 - |2 * l - 100|) * s ≤ (100 - |2 * l - 100|) * 99 := by
  have hspan : 0 ≤ 100 - |2 * l - 100| := by
    rw [lightnessSpan_eq]
    omega
  exact ⟨mul_nonneg hspan hs, mul_le_mul_of_nonneg_left hs' hspan⟩

theorem hslChroma_range : 0 ≤ hslChroma s l ∧ hslChroma s l ≤ 253 := by
  have hproduct := lightnessSpan_mul_range hs hs' hl hl'
  have hspan := lightnessSpan_eq l
  unfold hslChroma
  omega

/-- The chroma leaves room on both sides: it is at most the doubled luminosity, and their sum stays below 512, so that
the offset is not negative and the largest component at most 255 (rule R107). -/
theorem hslChroma_le_luminosity :
    hslChroma s l ≤ l * 2 * 256 / 100 ∧ l * 2 * 256 / 100 + hslChroma s l ≤ 511 := by
  have hproduct := lightnessSpan_mul_range hs hs' hl hl'
  have hspan := lightnessSpan_eq l
  unfold hslChroma
  omega

theorem hslOffset_range : 0 ≤ hslOffset s l ∧ hslOffset s l ≤ 253 := by
  have hchroma := hslChroma_range hs hs' hl hl'
  have hroom := hslChroma_le_luminosity hs hs' hl hl'
  unfold hslOffset
  omega

theorem hslChroma_add_offset_le : hslChroma s l + hslOffset s l ≤ 255 := by
  have hroom := hslChroma_le_luminosity hs hs' hl hl'
  unfold hslOffset
  omega

end Percents

/-! ## The components (steps 4 to 6) -/

theorem hslSecond_eq (h s l : Int) : hslSecond h s l = hslChroma s l * (256 - hslTemp h) / 256 := by
  rw [hslSecond, Int.shiftRight_eq_div_pow]
  rfl

theorem hslSecond_range {h s l : Int} (hc : 0 ≤ hslChroma s l) :
    0 ≤ hslSecond h s l ∧ hslSecond h s l ≤ hslChroma s l := by
  have htemp := hslTemp_range h
  have hlow : 0 ≤ hslChroma s l * (256 - hslTemp h) := mul_nonneg hc (by omega)
  have hhigh : hslChroma s l * (256 - hslTemp h) ≤ hslChroma s l * 256 :=
    mul_le_mul_of_nonneg_left (by omega) hc
  rw [hslSecond_eq]
  omega

theorem hslSecond_eq_chroma_iff {h s l : Int} (hc : 0 ≤ hslChroma s l) :
    hslSecond h s l = hslChroma s l ↔ hslChroma s l = 0 ∨ hslTemp h = 0 := by
  have htemp := hslTemp_range h
  rw [hslSecond_eq]
  obtain hzero | hpos := htemp.1.eq_or_lt
  · rw [← hzero]
    omega
  · have hbelow : hslChroma s l * (256 - hslTemp h) ≤ hslChroma s l * 255 :=
      mul_le_mul_of_nonneg_left (by omega) hc
    have hlow : 0 ≤ hslChroma s l * (256 - hslTemp h) := mul_nonneg hc (by omega)
    omega

/-- Every entry of the sector table is one of the three values it is made of. -/
theorem hslSectorRgb_forall {P : Int → Prop} {h1 c x : Int} (hc : P c) (hx : P x) (hzero : P 0) :
    P (hslSectorRgb h1 c x).1 ∧ P (hslSectorRgb h1 c x).2.1 ∧ P (hslSectorRgb h1 c x).2.2 := by
  unfold hslSectorRgb
  split_ifs <;> exact ⟨‹_›, ‹_›, ‹_›⟩

/-- Every row of the sector table has a component that is 0. -/
theorem hslSectorRgb_exists_zero (h1 c x : Int) :
    (hslSectorRgb h1 c x).1 = 0 ∨ (hslSectorRgb h1 c x).2.1 = 0 ∨ (hslSectorRgb h1 c x).2.2 = 0 := by
  unfold hslSectorRgb
  split_ifs <;> simp

/-- The smallest component is the offset alone. -/
theorem hslComponents_exists_offset (h s l : Int) :
    (hslComponents h s l).1 = hslOffset s l ∨ (hslComponents h s l).2.1 = hslOffset s l ∨
      (hslComponents h s l).2.2 = hslOffset s l := by
  simpa only [hslComponents, add_eq_right] using hslSectorRgb_exists_zero _ _ _

/-- Without chroma the three components are the offset (rule R108). -/
theorem hslComponents_of_chroma_eq_zero {h s l : Int} (hc : hslChroma s l = 0) :
    hslComponents h s l = (hslOffset s l, hslOffset s l, hslOffset s l) := by
  have hx : hslSecond h s l = 0 := (hslSecond_eq_chroma_iff hc.ge).mpr (.inl hc) |>.trans hc
  obtain ⟨hr, hg, hb⟩ := hslSectorRgb_forall (P := (· = 0)) (h1 := hslSector h) hc hx rfl
  simp only [hslComponents, hr, hg, hb, zero_add]

/-- No component leaves a byte, so `pack` masks nothing (rule R107). -/
theorem hslComponents_range {h s l : Int} (hs : 0 ≤ s) (hs' : s ≤ 99) (hl : 0 ≤ l) (hl' : l ≤ 99) :
    (0 ≤ (hslComponents h s l).1 ∧ (hslComponents h s l).1 ≤ 255) ∧
    (0 ≤ (hslComponents h s l).2.1 ∧ (hslComponents h s l).2.1 ≤ 255) ∧
    (0 ≤ (hslComponents h s l).2.2 ∧ (hslComponents h s l).2.2 ≤ 255) := by
  obtain ⟨hchroma, -⟩ := hslChroma_range hs hs' hl hl'
  have hoffset := hslOffset_range hs hs' hl hl'
  have hlargest := hslChroma_add_offset_le hs hs' hl hl'
  have hsecond := hslSecond_range (h := h) hchroma
  exact hslSectorRgb_forall (P := fun v => 0 ≤ v + hslOffset s l ∧ v + hslOffset s l ≤ 255)
    (by omega) (by omega) (by omega)

/-- Settles O19, row by row of the table of rule R107. -/
theorem hslIntermediatesStayInBounds : Obligations.HslIntermediatesStayInBounds := by
  unfold Obligations.HslIntermediatesStayInBounds
  intro h s l hh hh' hs hs' hl hl'
  have hspan := lightnessSpan_eq l
  have hproduct := lightnessSpan_mul_range hs hs' hl hl'
  have hfraction := hslFraction_range h
  have hchroma := hslChroma_range hs hs' hl hl'
  have hroom := hslChroma_le_luminosity hs hs' hl hl'
  refine ⟨by omega, by omega, hchroma, hslSector_range hh hh', hslSector_rest_range h, hfraction, ?even, ?odd,
    hslSecond_range hchroma.1, ?reached, by omega, by omega, hslOffset_range hs hs' hl hl',
    hslComponents_range hs hs' hl hl'⟩
  case even =>
    intro heven
    have htemp := hslTemp_of_even heven
    omega
  case odd =>
    intro hodd
    have htemp := hslTemp_of_odd hodd
    omega
  case reached => rw [hslSecond_eq_chroma_iff hchroma.1, hslTemp_eq_zero_iff]

/-! ## The normalisation (step 1) -/

theorem hslHue_add_turns (h k : Int) : hslHue (h + 360 * k) = hslHue h :=
  Int.add_mul_emod_self_left h 360 k

theorem hslPercent_eq (v : Int) : hslPercent v = max 0 (min 99 v) := by
  unfold hslPercent clamp
  split_ifs <;> omega

theorem hslPercent_range (v : Int) : 0 ≤ hslPercent v ∧ hslPercent v ≤ 99 := by
  rw [hslPercent_eq]
  omega

theorem hslPercent_of_range {v : Int} (hv : 0 ≤ v) (hv' : v ≤ 99) : hslPercent v = v := by
  rw [hslPercent_eq]
  omega

theorem hslPercent_zero : hslPercent 0 = 0 := rfl

theorem hslPercent_idem (v : Int) : hslPercent (hslPercent v) = hslPercent v := by
  obtain ⟨hlow, hhigh⟩ := hslPercent_range v
  exact hslPercent_of_range hlow hhigh

/-- Settles O20: the colour depends on the normalised operands alone. -/
theorem hslHueWrapsAndPercentsClamp : Obligations.HslHueWrapsAndPercentsClamp := by
  unfold Obligations.HslHueWrapsAndPercentsClamp
  intro h s l k
  refine ⟨?wraps, ?clamps⟩
  case wraps => simp only [hslColor, hslHue_add_turns]
  case clamps => simp only [hslColor, ← hslPercent_eq, hslPercent_idem]

/-! ## The seven steps and the command -/

/-- Settles O18: the steps of the model are those of rule R106, with the shift as a division and the pack as a sum. -/
theorem hslRunsTheSevenSteps : Obligations.HslRunsTheSevenSteps := by
  unfold Obligations.HslRunsTheSevenSteps
  refine ⟨decode_encode (i := .hsl) rfl, ?steps, fun _ => exec_of_result rfl rfl⟩
  case steps =>
    intro hue saturation luminosity h s l c h1 h2 temp x m rgb
    have hx : hslSecond h s l = x := hslSecond_eq h s l
    have hrgb : hslSectorRgb h1 c x = rgb := rfl
    rw [hslColor, pack_toNat, ← hrgb, ← hx]
    rfl

/-! ## Black, greys and white -/

/-- Without chroma the colour is the grey of the offset. -/
theorem hslColor_of_chroma_eq_zero {h s l : Int} (hc : hslChroma (hslPercent s) (hslPercent l) = 0) :
    hslColor h s l =
      pack (hslOffset (hslPercent s) (hslPercent l)) (hslOffset (hslPercent s) (hslPercent l))
        (hslOffset (hslPercent s) (hslPercent l)) := by
  rw [hslColor, hslComponents_of_chroma_eq_zero hc]

theorem hslChroma_zero_left (l : Int) : hslChroma 0 l = 0 := by
  simp [hslChroma]

theorem hslChroma_zero_right (s : Int) : hslChroma s 0 = 0 := by
  simp [hslChroma]

theorem hslOffset_zero_left (l : Int) : hslOffset 0 l = l * 512 / 100 / 2 := by
  rw [hslOffset, hslChroma_zero_left, Int.sub_zero, Int.mul_assoc]
  rfl

/-- Rule R108, item 3. -/
theorem hslColor_black (h s : Int) : hslColor h s 0 = 0 := by
  have hoffset : hslOffset (hslPercent s) 0 = 0 := by
    simp [hslOffset, hslChroma_zero_right]
  rw [hslColor_of_chroma_eq_zero (by rw [hslPercent_zero, hslChroma_zero_right]), hslPercent_zero, hoffset]
  rfl

/-- Rule R108, item 4. -/
theorem hslColor_grey (h : Int) {l : Int} (hl : 0 ≤ l) (hl' : l ≤ 99) :
    hslColor h 0 l = pack (l * 512 / 100 / 2) (l * 512 / 100 / 2) (l * 512 / 100 / 2) := by
  rw [hslColor_of_chroma_eq_zero (by rw [hslPercent_zero, hslChroma_zero_left]), hslPercent_zero,
    hslPercent_of_range hl hl', hslOffset_zero_left]

/-- Rule R108, item 5: the smallest component is at most 253. -/
theorem hslColor_ne_white (h s l : Int) : hslColor h s l ≠ 0xFFFFFF := by
  intro hwhite
  obtain ⟨hs, hs'⟩ := hslPercent_range s
  obtain ⟨hl, hl'⟩ := hslPercent_range l
  have hoffset := hslOffset_range hs hs' hl hl'
  have hrange := hslComponents_range (h := hslHue h) hs hs' hl hl'
  have hsmallest := hslComponents_exists_offset (hslHue h) (hslPercent s) (hslPercent l)
  have hsum := congrArg BitVec.toNat hwhite
  rw [hslColor, pack_toNat] at hsum
  change _ = 0xFFFFFF at hsum
  omega

/-- Settles O21: at the ends of the percentages there is no chroma, and elsewhere the offset keeps the colour from
white. -/
theorem hslBlackGreysAndNoWhite : Obligations.HslBlackGreysAndNoWhite := by
  unfold Obligations.HslBlackGreysAndNoWhite
  refine ⟨hslColor_black, ?greys, ?middle, ?lightest, hslColor_ne_white⟩
  case greys =>
    intro h l hl hl'
    have hbyte : l * 512 / 100 / 2 % 256 = l * 512 / 100 / 2 := Int.emod_eq_of_lt (by omega) (by omega)
    rw [hslColor_grey h hl hl', pack_self_toNat, hbyte]
  case middle => exact fun h => (hslColor_grey h (by decide) (by decide)).trans (by decide)
  case lightest => exact fun h => (hslColor_grey h (by decide) (by decide)).trans (by decide)

end Sys2Proof.Machine
end

section
/-! SUPPORT. PixelGrid (`41_pixelgrid.md`): the cell that a pair of operands addresses (rules R130, R131), DIMS (rule
R132), and what is read from the grid after a PSET (rule R133). -/

namespace Sys2Proof.Machine

variable {s t : State}

/-! ## The addressed cell -/

theorem not_inBounds_iff {c r : Int} : ¬ inBounds c r ↔ c < 0 ∨ 12 ≤ c ∨ r < 0 ∨ 6 ≤ r := by
  rw [inBounds_iff]
  omega

section Addressed

variable {c r : Int} {col row : Nat} (hc : c = col) (hr : r = row)
include hc hr

theorem inBounds_of_natCast (hcol : col < 12) (hrow : row < 6) : inBounds c r :=
  inBounds_iff.mpr (by omega)

theorem cellIndex_of_natCast (h : inBounds c r) (hlt : row * 12 + col < Config.nCell) :
    cellIndex c r h = ⟨row * 12 + col, hlt⟩ := by
  have hval := cellIndex_val h
  exact Fin.ext (by dsimp only; omega)

end Addressed

/-- Settles O26: in bounds the operands address their cell, and out of bounds they address none. -/
theorem psetResult : Obligations.PsetResult := by
  unfold Obligations.PsetResult
  refine ⟨decode_encode (i := .pset) rfl, fun s => ⟨?within, ?outside⟩⟩
  case within =>
    intro col row hcol hrow hc hr
    have hb := inBounds_of_natCast hc hr hcol hrow
    rw [← cellIndex_of_natCast hc hr hb]
    exact execPset_inBounds hb
  case outside => exact fun hout => execPset_outside (not_inBounds_iff.mpr hout)

/-- Every cell is black after reset (`10_state.md` rule R35). -/
theorem reset_cell (j : Fin Config.nCell) : State.reset.grid.get j = 0 :=
  Table.get_replicate 0 j

/-- Settles O27: in bounds the addressed cell goes to R0, black where the grid is as reset leaves it. -/
theorem pgetResult : Obligations.PgetResult := by
  unfold Obligations.PgetResult
  refine ⟨decode_encode (i := .pget) rfl, fun s => ⟨?within, ?outside⟩⟩
  case within =>
    intro col row hcol hrow hc hr
    have hb := inBounds_of_natCast hc hr hcol hrow
    rw [← cellIndex_of_natCast hc hr hb]
    refine ⟨execPget_inBounds hb, fun hgrid => ⟨_, execPget_inBounds hb, ?black⟩⟩
    case black =>
      rw [State.complete_r0, State.writeR0_r0, hgrid, reset_cell]
      rfl
  case outside => exact fun hout => execPget_outside (not_inBounds_iff.mpr hout)

/-! ## The dimensions -/

/-- Settles O28: DIMS puts the two constants in R0 and R1, and what any other command can do leaves R1 alone. -/
theorem dimsResult : Obligations.DimsResult := by
  unfold Obligations.DimsResult
  exact ⟨decode_encode (i := .dims) rfl, fun _ => rfl, fun _ _ _ hi hexec => (effect_of_exec hexec).r1_eq hi⟩

/-! ## Reading after a PSET -/

theorem gridRead_complete (col row : Int) (s : State) : gridRead col row s.complete = gridRead col row s :=
  gridRead_congr s.complete_grid col row

/-- The PSET's own cell holds the colour it was given, where there is such a cell (rule R133). -/
theorem gridRead_pset_same (h : exec .pset s = .next t) :
    gridRead (sint s.a0) (sint s.a1) t =
      if inBounds (sint s.a0) (sint s.a1) then some (colorOperand s.a2) else none := by
  split_ifs with hb
  · obtain rfl := Host.Outcome.next.inj ((execPset_inBounds hb).symm.trans h)
    exact (gridRead_complete _ _ _).trans (gridRead_gridWrite_same (gridWrite_inBounds hb _ s))
  · exact gridRead_outside hb t

/-- Every other cell holds what it held (rule R130). -/
theorem gridRead_pset_other {col row : Int} (h : exec .pset s = .next t)
    (hne : ¬ (col = sint s.a0 ∧ row = sint s.a1)) : gridRead col row t = gridRead col row s := by
  cases effect_of_exec h with
  | result hpset => contradiction
  | pset hb => exact (gridRead_complete _ _ _).trans (gridRead_gridWrite_other (gridWrite_inBounds hb _ s) hne)
  | outOfBounds => exact gridRead_congr rfl col row

/-- Settles O29: a read at the PSET's own pair, and at any other pair. -/
theorem psetChangesNoOtherCell : Obligations.PsetChangesNoOtherCell := by
  unfold Obligations.PsetChangesNoOtherCell
  intro s t h col row
  refine ⟨gridRead_pset_other h, ?same⟩
  case same =>
    rintro ⟨rfl, rfl⟩
    exact gridRead_pset_same h

/-- PGET puts what it reads in R0 (rule R131). -/
theorem exec_pget_of_gridRead {c : Color} (h : gridRead (sint s.a0) (sint s.a1) s = some c) :
    exec .pget s = .next (s.writeR0 (zext32 c)).complete := by
  simp only [exec, execPget, h]

/-- A Color operand as a number (`30_encoding.md` rule R84). -/
theorem colorOperand_toNat (w : Word) : (colorOperand w).toNat = w.toNat % 2 ^ 24 := by
  rw [colorOperand, BitVec.extractLsb'_toNat, Nat.shiftRight_zero]

/-- Settles O30: the later state has the PSET's grid and operands, so it reads the cell that the PSET wrote. -/
theorem setThenGetReturnsTheColour : Obligations.SetThenGetReturnsTheColour := by
  unfold Obligations.SetThenGetReturnsTheColour
  intro s t u hb hpset hgrid ha0 ha1
  have hread : gridRead (sint u.a0) (sint u.a1) u = some (colorOperand s.a2) :=
    calc
      gridRead (sint u.a0) (sint u.a1) u
        = gridRead (sint s.a0) (sint s.a1) t := by rw [ha0, ha1, gridRead_congr hgrid]
      _ = some (colorOperand s.a2) := (gridRead_pset_same hpset).trans (if_pos hb)
  refine ⟨_, exec_pget_of_gridRead hread, ?colour, rfl⟩
  case colour => rw [State.complete_r0, State.writeR0_r0, zext32_toNat _ (by decide), colorOperand_toNat]

end Sys2Proof.Machine
end

section
/-! SUPPORT. GammaTable (`42_gamma.md`): the entry that the low byte of A0 selects (rule R140), and the order of the
entries of an admissible table (rules R141, R142). -/

namespace Sys2Proof

/-- A table whose entries do not fall from one to the next is monotone over all pairs of entries (`42_gamma.md` rules
R141, R142). -/
theorem Params.wf.gammaTable_monotone {p : Params} (h : p.wf) :
    Monotone fun i : Fin 256 => (p.gammaTable.get i).toNat := by
  obtain ⟨-, hsucc, -⟩ := h
  exact Fin.monotone_iff_le_succ.mpr hsucc

namespace Machine

theorem gammaLookup_mono {p : Params} (h : p.wf) {a b : Byte} (hab : a.toNat ≤ b.toNat) :
    (gammaLookup p a).toNat ≤ (gammaLookup p b).toNat :=
  h.gammaTable_monotone (show a.toFin ≤ b.toFin from hab)

theorem gammaLookup_zero {p : Params} (h : p.wf) : gammaLookup p 0 = 0 :=
  h.left

/-- Settles O33: the look-up is monotone, and no byte is above 255. -/
theorem gammaIsMonotone : Obligations.GammaIsMonotone := by
  unfold Obligations.GammaIsMonotone
  intro p hp
  refine ⟨fun _ _ => gammaLookup_mono hp, gammaLookup_zero hp, fun a => ?greatest⟩
  case greatest => exact gammaLookup_mono hp (Nat.le_of_lt_succ a.isLt)

/-- A byte operand as a number (`30_encoding.md` rule R84). -/
theorem byteOperand_toNat (w : Word) : (byteOperand w).toNat = w.toNat % 256 := by
  rw [byteOperand, BitVec.extractLsb'_toNat, Nat.shiftRight_zero]

/-- The look-up takes the entry that bits 7:0 of the operand number (`42_gamma.md` rule R140). -/
theorem gammaLookup_byteOperand (p : Params) (w : Word) :
    gammaLookup p (byteOperand w) = p.gammaTable.get ⟨w.toNat % 256, Nat.mod_lt _ (by decide)⟩ :=
  congrArg p.gammaTable.get (Fin.ext (byteOperand_toNat w))

/-- Settles O32: the low byte of A0 as an index, which is the index 0 where that byte is 0. -/
theorem gammaResult : Obligations.GammaResult := by
  unfold Obligations.GammaResult
  refine ⟨decode_encode (i := .gamma) rfl, fun s => ⟨?entry, ?zero⟩⟩
  case entry => exact exec_of_result rfl (congrArg zext32 (gammaLookup_byteOperand s.params s.a0))
  case zero =>
    intro hp hzero
    have hbyte : byteOperand s.a0 = 0 := BitVec.eq_of_toNat_eq ((byteOperand_toNat s.a0).trans hzero)
    refine ⟨_, rfl, ?_⟩
    rw [State.complete_r0, State.writeR0_r0, hbyte, gammaLookup_zero hp]
    rfl

end Machine

end Sys2Proof
end

section
/-! SUPPORT. What the transport port sees (`42_gamma.md` rule R143, `43_display.md` rules R155 to R159): an answer
lengthens the episode of the SHOW in progress by one record, and whatever ends that SHOW leaves its episode behind. -/

namespace Sys2Proof.Machine

variable {s t : State}

/-! ## Episodes -/

/-- An episode after one more operation of its SHOW has been answered. -/
def Episode.answer (ok : Bool) (e : Episode) : Episode :=
  if ok then { e with succeeded := e.succeeded + 1 } else { e with failed := true }

/-- The answer to the next request of an unfailed episode is its next record (`43_display.md` rules R157, R159). -/
theorem Episode.records_answer {p : Params} {e : Episode} {op : TransportOp} (ok : Bool) (hfailed : e.failed = false)
    (hop : (e.requests p)[e.succeeded]? = some op) : (e.answer ok).records p = e.records p ++ [⟨op, ok⟩] := by
  have hrequests : (e.answer ok).requests p = e.requests p := by cases ok <;> rfl
  unfold records
  rw [hrequests]
  cases ok with
  | true =>
    have htake : (e.requests p).take (e.succeeded + 1) = (e.requests p).take e.succeeded ++ [op] := by
      rw [List.take_add_one, hop, Option.toList_some]
    simp [answer, hfailed, htake, -List.map_take]
  | false =>
    have hnext : ((e.requests p).drop e.succeeded).take 1 = [op] := by
      rw [List.take_one, List.head?_drop, hop, Option.toList_some]
    simp [answer, hfailed, hnext, -List.map_take]

/-- The SHOW in progress as an episode: it targets the inactive frame and shows the grid as it stands. -/
def State.pendingEpisode (s : State) : Episode :=
  ⟨s.af ^^^ 1#1, s.grid, s.drv.answered, false⟩

theorem pendingEpisode_records (s : State) : s.pendingEpisode.records s.params = s.pendingRecords :=
  List.append_nil _

/-- The outstanding operation sends the request that its number picks out of the SHOW's four, once CB holds the
corrected bytes of the grid (`43_display.md` rules R153 to R155). -/
theorem pendingEpisode_requests_get {k : OpNum} (hd : s.drv = .transferring k)
    (hcb : s.cb = gammaCorrect s.params (flatten s.grid)) :
    (s.pendingEpisode.requests s.params)[s.pendingEpisode.succeeded]? = some (transportRequest k s) := by
  have hsucceeded : s.pendingEpisode.succeeded = k.number.toNat - 1 := congrArg Driver.answered hd
  rw [hsucceeded]
  cases k with
  | bufferWrite =>
    rw [transportRequest, hcb]
    rfl
  | _ => rfl

/-- The record of the answer continues the records of the SHOW in progress. -/
theorem pendingEpisode_records_answer {k : OpNum} (ok : Bool) (hd : s.drv = .transferring k)
    (hcb : s.cb = gammaCorrect s.params (flatten s.grid)) :
    (s.pendingEpisode.answer ok).records s.params = s.pendingRecords ++ [⟨transportRequest k s, ok⟩] := by
  rw [Episode.records_answer ok rfl (pendingEpisode_requests_get hd hcb), pendingEpisode_records]

/-! ## A wire of ended SHOWs -/

/-- WIRE is a sequence of episodes, none of them in progress. -/
def State.WireEnded (s : State) : Prop :=
  ∃ es : List Episode, s.wire = es.flatMap (Episode.records s.params)

theorem wireEnded_of_append {es : List Episode} {e : Episode}
    (h : s.wire = es.flatMap (Episode.records s.params) ++ e.records s.params) : s.WireEnded :=
  ⟨es ++ [e], by simp [h]⟩

/-- Where a SHOW in progress is left, what it has sent is an episode like any other (`70_reset_and_hazards.md` rule
R192). -/
theorem State.WireInv.wireEnded (h : s.WireInv) : s.WireEnded := by
  obtain ⟨es, hes⟩ := h.wire_eq
  exact wireEnded_of_append (hes.trans (by rw [pendingEpisode_records]))

/-- An idle block whose wire is ended has the invariant, whatever else a step that sent nothing has done to it. -/
theorem State.WireEnded.wireInv (h : s.WireEnded) (hwire : t.wire = s.wire) (hparams : t.params = s.params)
    (hd : t.drv = .idle) : t.WireInv where
  wire_eq := by
    obtain ⟨es, hes⟩ := h
    exact ⟨es, by rw [hwire, hes, hparams, pendingRecords_idle hd, List.append_nil]⟩
  cb_eq k hk := by simp [hd] at hk

/-! ## The transfer -/

/-- The transport's queue is not part of the wire invariant. -/
theorem State.WireInv.takeAnswer (h : s.WireInv) (rest : List TransportEvent) :
    State.WireInv { s with transport := rest } :=
  ⟨h.wire_eq, h.cb_eq⟩

/-- A success before the fourth operation lengthens the SHOW in progress (`43_display.md` rule R158). -/
theorem pendingEpisode_transferNext {k : OpNum} (hd : s.drv = .transferring k) (hk : k ≠ .frameSelect) :
    (transferNext k s).pendingEpisode = s.pendingEpisode.answer true := by
  have hanswer : s.pendingEpisode.answer true = ⟨s.af ^^^ 1#1, s.grid, k.number.toNat - 1 + 1, false⟩ := by
    simp [State.pendingEpisode, Episode.answer, Driver.answered, hd]
  rw [hanswer]
  cases k with
  | frameSelect => contradiction
  | _ => rfl

/-- A success advances the SHOW in progress, or ends it after the fourth operation (`43_display.md` rule R158). -/
theorem transferNext_wireInv {k : OpNum} {es : List Episode} (hd : s.drv = .transferring k)
    (hcb : s.cb = gammaCorrect s.params (flatten s.grid))
    (hwire : s.wire = es.flatMap (Episode.records s.params) ++ (s.pendingEpisode.answer true).records s.params) :
    (transferNext k s).WireInv := by
  cases k with
  | frameSelect => exact (wireEnded_of_append hwire).wireInv rfl rfl rfl
  | _ =>
    rw [← pendingEpisode_transferNext hd nofun] at hwire
    exact ⟨⟨es, hwire.trans (congrArg _ (pendingEpisode_records (transferNext _ s)))⟩, fun _ _ => hcb⟩

theorem transportAnswer_wireInv {k : OpNum} (h : s.WireInv) (hd : s.drv = .transferring k) (ok : Bool) :
    (transportAnswer k ok s).WireInv := by
  have hcb := h.cb_eq k hd
  obtain ⟨es, hes⟩ := h.wire_eq
  have hwire : (s.recordWire (transportRequest k s) ok).wire =
      es.flatMap (Episode.records s.params) ++ (s.pendingEpisode.answer ok).records s.params := by
    rw [State.recordWire_wire, hes, pendingEpisode_records_answer ok hd hcb, List.append_assoc]
  cases ok with
  | true => exact transferNext_wireInv (s := s.recordWire (transportRequest k s) true) hd hcb hwire
  | false => exact (wireEnded_of_append hwire).wireInv rfl rfl rfl

theorem transferStep_wireInv (h : s.WireInv) : (transferStep s).WireInv := by
  rcases transferStep_cases s with hstep | ⟨k, ok, rest, hd, -, hstep⟩ <;> rw [hstep]
  · exact h
  · exact transportAnswer_wireInv (h.takeAnswer rest) hd ok

/-- A SHOW starts with nothing sent and CB holding the corrected bytes of the grid (`43_display.md` rules R151,
R152). -/
theorem showStart_wireInv (h : s.WireEnded) : (showStart s).WireInv where
  wire_eq := by
    obtain ⟨es, hes⟩ := h
    exact ⟨es, hes.trans (List.append_nil _).symm⟩
  cb_eq _ _ := rfl

theorem show_wireInv (h : s.WireEnded) : (runTransfer 4 (showStart s)).WireInv :=
  runTransfer_keeps (P := State.WireInv) (fun _ => transferStep_wireInv) 4 _ (showStart_wireInv h)

/-! ## Commands, host events, steps -/

/-- SHOW alone sends anything (`70_reset_and_hazards.md` rule R196); every other command leaves WIRE as it is and the
block idle. -/
theorem ExecEffect.wireInv {i : Instr} (h : ExecEffect s i t) (hs : s.WireEnded) : t.WireInv := by
  cases h with
  | showFrame => exact show_wireInv hs
  | _ => exact hs.wireInv rfl rfl rfl

theorem HostEffect.wireInv {e : HostEvent} (h : HostEffect s e t) (hd : s.drv = .idle) (hs : s.WireEnded) :
    t.WireInv := by
  cases h with
  | command _ hexec => exact hexec.wireInv hs
  | illegal => exact hs.wireInv rfl rfl rfl
  | reset => exact hs.wireInv rfl rfl rfl
  | _ => exact hs.wireInv rfl rfl hd

theorem StepEffect.wireInv (h : StepEffect s t) (hs : s.WireInv) : t.WireInv := by
  cases h with
  | hold => exact hs
  | host hd _ heffect => exact heffect.wireInv hd hs.wireEnded
  | wait => exact hs
  | abort => exact hs.wireEnded.wireInv rfl rfl rfl
  | @answer _ ok rest hd => exact transportAnswer_wireInv (hs.takeAnswer rest) hd ok

/-- Settles O44: each thing a step can do keeps the wire invariant. -/
theorem wireHoldsOnlyShows : Obligations.WireHoldsOnlyShows := by
  unfold Obligations.WireHoldsOnlyShows
  intro s t hs h
  exact (effect_of_step h).wireInv hs

end Sys2Proof.Machine
end

section
/-! SUPPORT. DisplayDriver (`43_display.md`): the bytes of the two buffers (rules R151, R152), the table of rule R158 as
steps, and what a SHOW leads to for the answers the transport has ready (rules R156, R157, R160, R161, R163). -/

namespace Sys2Proof.Machine

variable {s t : State} {k : OpNum} {rest : List TransportEvent}

/-! ## The buffers -/

theorem red_toNat (c : Color) : (red c).toNat = c.toNat / 65536 := by
  rw [red, BitVec.extractLsb'_toNat, Nat.shiftRight_eq_div_pow]
  omega

theorem green_toNat (c : Color) : (green c).toNat = c.toNat / 256 % 256 := by
  rw [green, BitVec.extractLsb'_toNat, Nat.shiftRight_eq_div_pow]

theorem blue_toNat (c : Color) : (blue c).toNat = c.toNat % 256 := by
  rw [blue, BitVec.extractLsb'_toNat, Nat.shiftRight_zero]

/-- The three bytes of a cell stand together in the flattened buffer (`43_display.md` rule R151). -/
theorem flatten_get_channel (g : Table Color Config.nCell) {i ch : Nat} (hi : i < Config.nCell) (hch : ch < 3)
    (hj : 3 * i + ch < Config.fbLen) : (flatten g).get ⟨3 * i + ch, hj⟩ = channel ch (g.get ⟨i, hi⟩) := by
  have hcell : (3 * i + ch) / 3 = i := by omega
  have hchannel : (3 * i + ch) % 3 = ch := by omega
  rw [flatten_get _ _ (by rwa [hcell])]
  simp only [hcell, hchannel]

/-- Settles O36: the channels of the cell as numbers, and the table applied to each byte. -/
theorem frameBufferBytes : Obligations.FrameBufferBytes := by
  unfold Obligations.FrameBufferBytes
  intro g p col row hcol hrow
  have hcell : row * 12 + col < Config.nCell := by simp only [Config.nCell]; omega
  refine ⟨?red, ?green, ?blue, gammaCorrect_get p⟩ <;> rw [flatten_get_channel g hcell (by decide)]
  case red => exact red_toNat _
  case green => exact green_toNat _
  case blue => exact blue_toNat _

/-! ## The table of rule R158 -/

/-- The bank that a SHOW selects is the one that AF does not name (`43_display.md` rule R153). -/
theorem inactiveFrame_eq (s : State) : inactiveFrame s = if s.af = 0 then 0x01 else 0x00 := by
  unfold inactiveFrame
  generalize s.af = b
  revert b
  decide

theorem step_answer {ok : Bool} (hd : s.drv = .transferring k) (ht : s.transport = .answer ok :: rest) :
    step s = .next (transportAnswer k ok { s with transport := rest }) := by
  simp only [step, hd, transferringStep, ht, transferStep_answer hd ht]

theorem step_abort (hd : s.drv = .transferring k) (ht : s.transport = .reset :: rest) :
    step s = .next { s with transport := rest }.resetEvent := by
  simp only [step, hd, transferringStep, ht]

theorem step_wait (hd : s.drv = .transferring k) (ht : s.transport = []) : step s = .next s := by
  simp only [step, hd, transferringStep, ht, transferStep]

/-- A block to which no row of the table applies stays as it is, whatever the fuel. -/
theorem runTransfer_of_fixed (h : transferStep s = s) (n : Nat) : runTransfer n s = s :=
  runTransfer_keeps (P := (· = s)) (fun _ ht => by rw [ht, h]) n s rfl

/-- With nothing at the transport port SHOW starts and waits (`43_display.md` rules R158, R160). -/
theorem exec_show_unanswered (h : s.transport = []) : exec .showFrame s = .next (showStart s) :=
  congrArg Host.Outcome.next (runTransfer_of_fixed (transferStep_of_no_answer (by simp [showStart, h])) 4)

/-- Settles O40, row by row. -/
theorem transferTable : Obligations.TransferTable := by
  unfold Obligations.TransferTable
  intro s
  rw [← inactiveFrame_eq]
  refine ⟨?start, ?first, ?second, ?third, ?fourth, ?failure, ?wait, ?abort⟩
  case start =>
    intro rest hd hh ht
    rw [step_command hd hh (decode_encode (i := .showFrame) rfl)]
    exact exec_show_unanswered ht
  case first => exact fun rest hd ht => step_answer hd ht
  case second => exact fun rest hd ht => step_answer hd ht
  case third => exact fun rest hd ht => step_answer hd ht
  case fourth => exact fun rest hd ht => step_answer hd ht
  case failure =>
    intro k rest hd ht
    rw [step_answer hd ht]
    cases k <;> rfl
  case wait => exact fun k hd ht => step_wait hd ht
  case abort => exact fun k rest hd ht => ⟨_, step_abort hd ht, rfl, rfl⟩

/-! ## SHOW in one piece and its small steps -/

/-- How many operations of the SHOW in progress have not been answered. -/
def Driver.remaining : Driver → Nat
  | .idle => 0
  | .transferring k => 5 - k.number.toNat

theorem Driver.eq_idle_of_remaining_eq_zero {d : Driver} (h : d.remaining = 0) : d = .idle := by
  cases d with
  | idle => rfl
  | transferring k =>
    have hrange := k.number_range
    have hzero : 5 - k.number.toNat = 0 := h
    omega

/-- A success leaves one operation less (`43_display.md` rule R158). -/
theorem transferNext_remaining (k : OpNum) (s : State) :
    (transferNext k s).drv.remaining + 1 = (Driver.transferring k).remaining := by
  cases k <;> rfl

/-- An answer leaves fewer operations to answer: a failure leaves none (`43_display.md` rule R157). -/
theorem transportAnswer_remaining_lt (k : OpNum) (ok : Bool) (s : State) :
    (transportAnswer k ok s).drv.remaining < (Driver.transferring k).remaining := by
  cases ok with
  | true => exact Nat.lt_of_succ_le (transferNext_remaining k _).le
  | false =>
    have hrange := k.number_range
    exact Nat.sub_pos_of_lt (by omega)

theorem transportAnswer_transport (k : OpNum) (ok : Bool) (s : State) :
    (transportAnswer k ok s).transport = s.transport := by
  cases ok with
  | false => rfl
  | true => cases k <;> rfl

/-- A run of at most `fuel` steps leads from `s` to `t`, taking one answer a step, and stops only at an idle block or
where no answer is ready. -/
def TransferRuns (fuel : Nat) (s t : State) : Prop :=
  ∃ n ≤ fuel, core.run n s = .next t ∧ (t.drv = .idle ∨ ∀ ok rest, t.transport ≠ .answer ok :: rest) ∧
    ∃ answers, s.transport = answers ++ t.transport ∧ answers.length = n

theorem TransferRuns.stopped {fuel : Nat} (h : s.drv = .idle ∨ ∀ ok rest, s.transport ≠ .answer ok :: rest) :
    TransferRuns fuel s s :=
  ⟨0, Nat.zero_le _, run_zero s, h, [], rfl, rfl⟩

theorem TransferRuns.answer {fuel : Nat} {ok : Bool} (hd : s.drv = .transferring k)
    (ht : s.transport = .answer ok :: rest)
    (h : TransferRuns fuel (transportAnswer k ok { s with transport := rest }) t) : TransferRuns (fuel + 1) s t := by
  obtain ⟨n, hn, hrun, hstop, answers, hanswers, hlen⟩ := h
  rw [transportAnswer_transport] at hanswers
  refine ⟨n + 1, by omega, (run_succ (step_answer hd ht) n).trans hrun, hstop, .answer ok :: answers, ?taken,
    ?length⟩
  case taken => rw [ht, List.cons_append, ← hanswers]
  case length => rw [List.length_cons, hlen]

/-- A transfer with fuel for its unanswered operations stops only where the small steps do (`43_display.md` rules R158,
R159). -/
theorem transferRuns_runTransfer (fuel : Nat) (s : State) (h : s.drv.remaining ≤ fuel) :
    TransferRuns fuel s (runTransfer fuel s) := by
  induction fuel generalizing s with
  | zero => exact .stopped (.inl (Driver.eq_idle_of_remaining_eq_zero (Nat.le_zero.mp h)))
  | succ fuel ih =>
    rcases hd : s.drv with _ | k
    · rw [runTransfer_of_fixed (transferStep_idle hd)]
      exact .stopped (.inl hd)
    · by_cases ht : ∃ ok rest, s.transport = .answer ok :: rest
      · obtain ⟨ok, rest, ht⟩ := ht
        rw [runTransfer, transferStep_answer hd ht]
        refine (ih _ ?_).answer hd ht
        have hless := transportAnswer_remaining_lt k ok { s with transport := rest }
        rw [hd] at h
        omega
      · rw [runTransfer_of_fixed (transferStep_of_no_answer ht)]
        exact .stopped (.inr fun ok rest he => ht ⟨ok, rest, he⟩)

/-- Settles O41: four operations are unanswered when SHOW starts. -/
theorem showIsItsSmallSteps : Obligations.ShowIsItsSmallSteps := by
  unfold Obligations.ShowIsItsSmallSteps
  intro s
  have hfour : (showStart s).drv.remaining = 4 := rfl
  obtain ⟨n, hn, hruns⟩ := transferRuns_runTransfer 4 (showStart s) hfour.le
  exact ⟨n, _, hn, rfl, hruns⟩

/-! ## SHOW for the answers that are ready -/

/-- The four requests of a SHOW from `s` (`43_display.md` rules R150 to R155). -/
def State.showOps (s : State) : List TransportOp :=
  showRequests s.params (inactiveFrame s) (gammaCorrect s.params (flatten s.grid))

theorem State.showOps_eq (s : State) : s.showOps =
    showRequests s.params (if s.af = 0 then 0x01 else 0x00) (gammaCorrect s.params (flatten s.grid)) := by
  rw [showOps, inactiveFrame_eq]

/-- A SHOW from `s` with operation `k` outstanding: those before it were answered with success. -/
def State.showing (s : State) (k : OpNum) (rest : List TransportEvent) : State :=
  { showStart s with
    wire := s.wire ++ (s.showOps.take (k.number.toNat - 1)).map fun op => ⟨op, true⟩
    drv := .transferring k
    transport := rest }

/-- A SHOW from `s` that the transport has answered with four successes (rule R156). -/
def State.shown (s : State) (rest : List TransportEvent) : State :=
  { showStart s with
    wire := s.wire ++ s.showOps.map fun op => ⟨op, true⟩
    af := s.af ^^^ 1
    err := 0
    fstep := 0
    drv := .idle
    transport := rest }

/-- A SHOW from `s` that failed at operation `k` (rule R157). -/
def State.showFailed (s : State) (k : OpNum) (rest : List TransportEvent) : State :=
  { showStart s with
    wire := s.wire ++ ((s.showOps.take (k.number.toNat - 1)).map fun op => ⟨op, true⟩) ++
      ((s.showOps.drop (k.number.toNat - 1)).take 1).map fun op => ⟨op, false⟩
    err := 2
    fstep := k.number
    drv := .idle
    transport := rest }

theorem showStart_eq_showing (h : s.transport = rest) : showStart s = s.showing .bankSelect rest := by
  subst h
  simp [State.showing, OpNum.number, showStart]

/-- A success puts the outstanding request in WIRE after those before it. -/
theorem transferStep_showing_success (s : State) (k : OpNum) (rest : List TransportEvent) :
    transferStep (s.showing k (.answer true :: rest)) = transferNext k { s.showing k rest with
      wire := s.wire ++ (s.showOps.take k.number.toNat).map fun op => ⟨op, true⟩ } := by
  have hwire : (s.showing k rest).wire ++ [⟨transportRequest k (s.showing k rest), true⟩] =
      s.wire ++ (s.showOps.take k.number.toNat).map fun op => ⟨op, true⟩ := by
    rw [State.showing, List.append_assoc]
    cases k <;> rfl
  rw [← hwire]
  exact transferStep_answer (ok := true) (rest := rest) rfl rfl

@[simp] theorem transferStep_showing_bankSelect (s : State) (rest : List TransportEvent) :
    transferStep (s.showing .bankSelect (.answer true :: rest)) = s.showing .bufferWrite rest :=
  transferStep_showing_success s .bankSelect rest

@[simp] theorem transferStep_showing_bufferWrite (s : State) (rest : List TransportEvent) :
    transferStep (s.showing .bufferWrite (.answer true :: rest)) = s.showing .configSelect rest :=
  transferStep_showing_success s .bufferWrite rest

@[simp] theorem transferStep_showing_configSelect (s : State) (rest : List TransportEvent) :
    transferStep (s.showing .configSelect (.answer true :: rest)) = s.showing .frameSelect rest :=
  transferStep_showing_success s .configSelect rest

@[simp] theorem transferStep_showing_frameSelect (s : State) (rest : List TransportEvent) :
    transferStep (s.showing .frameSelect (.answer true :: rest)) = s.shown rest :=
  transferStep_showing_success s .frameSelect rest

theorem transferStep_showing_failure (s : State) (k : OpNum) (rest : List TransportEvent) :
    transferStep (s.showing k (.answer false :: rest)) = s.showFailed k rest := by
  cases k <;> rfl

/-- SHOW with successes ready for the operations before `k` comes to operation `k`. -/
theorem exec_show_successes (k : OpNum)
    (h : s.transport = List.replicate (k.number.toNat - 1) (.answer true) ++ rest) :
    exec .showFrame s = .next (runTransfer (5 - k.number.toNat) (s.showing k rest)) := by
  have hexec : exec .showFrame s = .next (runTransfer 4 (showStart s)) := rfl
  rw [hexec, showStart_eq_showing h]
  cases k <;> simp [OpNum.number, runTransfer, List.replicate]

/-- SHOW with every answer a success and operation `k` unanswered (rule R160). -/
theorem exec_show_waits (k : OpNum) (h : s.transport = List.replicate (k.number.toNat - 1) (.answer true)) :
    exec .showFrame s = .next (s.showing k []) := by
  have hwait : transferStep (s.showing k []) = s.showing k [] := transferStep_of_no_answer (by simp [State.showing])
  rw [exec_show_successes k (h.trans (List.append_nil _).symm), runTransfer_of_fixed hwait]

/-- SHOW with four successes ready (rule R156). -/
theorem exec_show_succeeds (h : s.transport = List.replicate 4 (.answer true) ++ rest) :
    exec .showFrame s = .next (s.shown rest) := by
  rw [exec_show_successes .frameSelect h]
  exact congrArg Host.Outcome.next (transferStep_showing_frameSelect s rest)

/-- SHOW with a failure ready for operation `k` and successes for those before it (rule R157). -/
theorem exec_show_fails (k : OpNum)
    (h : s.transport = List.replicate (k.number.toNat - 1) (.answer true) ++ .answer false :: rest) :
    exec .showFrame s = .next (s.showFailed k rest) := by
  have hrange := k.number_range
  have hfuel : 5 - k.number.toNat = (4 - k.number.toNat) + 1 := by omega
  rw [exec_show_successes k h, hfuel, runTransfer, transferStep_showing_failure,
    runTransfer_of_fixed (transferStep_idle rfl)]

theorem OpNum.exists_number {n : Nat} (hn : 1 ≤ n) (hn' : n ≤ 4) : ∃ k : OpNum, k.number.toNat = n := by
  interval_cases n
  · exact ⟨.bankSelect, rfl⟩
  · exact ⟨.bufferWrite, rfl⟩
  · exact ⟨.configSelect, rfl⟩
  · exact ⟨.frameSelect, rfl⟩

/-- Settles O37: the word is SHOW's own, and the SHOW ends as `State.shown` says, at the bank that AF does not name. -/
theorem showSucceeds : Obligations.ShowSucceeds := by
  unfold Obligations.ShowSucceeds
  refine ⟨decode_encode (i := .showFrame) rfl, fun s rest h => ?_⟩
  rw [← inactiveFrame_eq]
  exact ⟨_, _, exec_show_succeeds h⟩

/-- Settles O38: the `k`-th answer is the one to the operation with the number `k`. -/
theorem showFailsAtEachOperation : Obligations.ShowFailsAtEachOperation := by
  unfold Obligations.ShowFailsAtEachOperation
  intro s k rest hk hk' h
  obtain ⟨op, rfl⟩ := OpNum.exists_number hk hk'
  rw [← inactiveFrame_eq, BitVec.ofNat_toNat, BitVec.setWidth_eq]
  exact ⟨_, _, exec_show_fails op h⟩

/-- Settles O39: the step without an answer holds the state, and SHOW comes to operation `n + 1`. -/
theorem unansweredTransferHangs : Obligations.UnansweredTransferHangs := by
  unfold Obligations.UnansweredTransferHangs
  refine ⟨?hang, ?reset, ?waits⟩
  case hang => exact fun s k hd ht => run_fixed (step_wait hd ht)
  case reset => exact fun s k rest hd ht => ⟨_, step_abort hd ht, rfl⟩
  case waits =>
    intro s n hn h
    obtain ⟨k, hk⟩ := OpNum.exists_number (n := n + 1) (by omega) (by omega)
    exact ⟨_, k, exec_show_waits k (by rwa [hk]), rfl, hk, rfl, rfl, rfl, rfl⟩

/-! ## Two SHOWs -/

/-- Settles O42: the failed SHOW leaves AF and the grid, from which the requests of the second are made. -/
theorem retryTargetsTheSameBank : Obligations.RetryTargetsTheSameBank := by
  unfold Obligations.RetryTargetsTheSameBank
  intro s k rest hk hk' h
  obtain ⟨op, rfl⟩ := OpNum.exists_number hk hk'
  refine ⟨_, _, exec_show_fails op h, exec_show_succeeds rfl, rfl, rfl, rfl, rfl, rfl, ?wire⟩
  case wire =>
    rw [← State.showOps_eq]
    rfl

/-- After a SHOW the next one writes the other bank, with the same bytes (`43_display.md` rules R156, R163). -/
theorem State.shown_showOps (s : State) (rest : List TransportEvent) : (s.shown rest).showOps =
    showRequests s.params (if s.af = 0 then 0x00 else 0x01) (gammaCorrect s.params (flatten s.grid)) := by
  have hother : (if s.af ^^^ 1 = 0 then (0x01 : Byte) else 0x00) = if s.af = 0 then 0x00 else 0x01 := by
    generalize s.af = b
    revert b
    decide
  rw [← hother]
  exact (s.shown rest).showOps_eq

/-- Settles O43: the first SHOW leaves the grid and makes the other frame active, and the second makes it inactive
again. -/
theorem twoShowsAlternateTheBanks : Obligations.TwoShowsAlternateTheBanks := by
  unfold Obligations.TwoShowsAlternateTheBanks
  intro s rest h
  have htoggle : s.af ^^^ 1 ^^^ 1 = s.af := by rw [BitVec.xor_assoc, BitVec.xor_self, BitVec.xor_zero]
  refine ⟨_, _, exec_show_succeeds h, exec_show_succeeds (s := s.shown _) rfl, rfl, htoggle, ?wire⟩
  case wire =>
    rw [← State.showOps_eq, ← s.shown_showOps, List.map_append, ← List.append_assoc]
    rfl

end Sys2Proof.Machine
end

section
/-! SUPPORT. Errors (`60_exceptions.md`): how a command ends, with the completion code of rule R170, and what an error
leaves as it was (rules R176, R177). -/

namespace Sys2Proof.Machine

variable {s t : State} {i : Instr}

/-! ## What a SHOW can come to -/

/-- What a SHOW from `s` can come to: an operation that waits for its answer, the success of all four, or the failure
of one (`43_display.md` rules R156, R157, R160). -/
inductive ShowOutcome (s : State) : State → Prop
  | waiting (k : OpNum) (rest : List TransportEvent) : ShowOutcome s (s.showing k rest)
  | succeeded (rest : List TransportEvent) : ShowOutcome s (s.shown rest)
  | failed (k : OpNum) (rest : List TransportEvent) : ShowOutcome s (s.showFailed k rest)

/-- A success brings the next operation, or the end after the fourth (`43_display.md` rule R158). -/
theorem showOutcome_of_success (s : State) (k : OpNum) (rest : List TransportEvent) :
    ShowOutcome s (transferStep (s.showing k (.answer true :: rest))) := by
  cases k with
  | bankSelect => rw [transferStep_showing_bankSelect]; exact .waiting _ rest
  | bufferWrite => rw [transferStep_showing_bufferWrite]; exact .waiting _ rest
  | configSelect => rw [transferStep_showing_configSelect]; exact .waiting _ rest
  | frameSelect => rw [transferStep_showing_frameSelect]; exact .succeeded rest

/-- One row of the table of rule R158, by what stands at the head of the transport's queue. -/
theorem showOutcome_transferStep_showing (s : State) (k : OpNum) (events : List TransportEvent) :
    ShowOutcome s (transferStep (s.showing k events)) := by
  match events with
  | .answer true :: rest => exact showOutcome_of_success s k rest
  | .answer false :: rest => rw [transferStep_showing_failure]; exact .failed k rest
  | .reset :: rest => exact .waiting k (.reset :: rest)
  | [] => exact .waiting k []

theorem ShowOutcome.transferStep (h : ShowOutcome s t) : ShowOutcome s (transferStep t) := by
  cases h with
  | waiting k events => exact showOutcome_transferStep_showing s k events
  | succeeded rest => exact .succeeded rest
  | failed k rest => exact .failed k rest

theorem show_outcome (s : State) : ShowOutcome s (runTransfer 4 (showStart s)) := by
  have hstart : ShowOutcome s (showStart s) := by
    rw [showStart_eq_showing rfl]
    exact .waiting _ _
  exact runTransfer_keeps (P := ShowOutcome s) (fun _ => ShowOutcome.transferStep) 4 _ hstart

/-! ## How a command ends -/

/-- The commands that raise an error kind: the fourth column of the table of rule R170. -/
def ErrKind.RaisedBy : ErrKind → Instr → Prop
  | .outOfBounds, i => i = .pset ∨ i = .pget
  | .transportFailure _, i => i = .showFrame
  | .illegalCommand, i => i.wf = false

/-- How a command that has ended left the block: with the code 0, or with an error that left the registers, the grid
and AF as they were (rules R170, R176). -/
inductive CommandEnd (i : Instr) (s t : State) : Prop
  | ok (herr : t.err = 0) (hfstep : t.fstep = 0)
  | error (e : ErrKind) (hraised : e.RaisedBy i) (herr : t.err = e.code) (hfstep : t.fstep = e.failedStep)
      (hframe : TransferFrame s t) (haf : t.af = s.af)

theorem CommandEnd.of_raise {e : ErrKind} (h : e.RaisedBy i) : CommandEnd i s (s.raise e) :=
  .error e h rfl rfl (by constructor <;> rfl) rfl

/-- A SHOW that waits has not ended. -/
theorem ShowOutcome.commandEnd (h : ShowOutcome s t) (hd : t.drv = .idle) : CommandEnd .showFrame s t := by
  cases h with
  | waiting => cases hd
  | succeeded => exact .ok rfl rfl
  | failed k => exact .error (.transportFailure k) rfl rfl rfl (by constructor <;> rfl) rfl

theorem ExecEffect.commandEnd (h : ExecEffect s i t) (hd : t.drv = .idle) : CommandEnd i s t := by
  cases h with
  | result => exact .ok rfl rfl
  | dims => exact .ok rfl rfl
  | pset => exact .ok rfl rfl
  | outOfBounds hi => exact .of_raise (e := .outOfBounds) hi
  | namedIllegal hidx => exact .of_raise (e := .illegalCommand) (decide_eq_false (Nat.not_le_of_lt hidx))
  | showFrame => exact (show_outcome s).commandEnd hd

/-! ## The two claims -/

/-- The codes of the error kinds that a well-formed command can raise (rules R170, R175). -/
theorem ErrKind.RaisedBy.code_cases {e : ErrKind} (h : e.RaisedBy i) (hwf : i.wf = true) :
    (e.code = 1 ∧ (i = .pset ∨ i = .pget)) ∨ (e.code = 2 ∧ i = .showFrame) := by
  cases e with
  | outOfBounds => exact .inl ⟨rfl, h⟩
  | transportFailure k => exact .inr ⟨rfl, h⟩
  | illegalCommand => exact absurd (hwf.symm.trans h) (by decide)

/-- Settles O48, by the way the command ended: FSTEP is the error kind's, or 0 with the code 0. -/
theorem completionCodesOfEachCommand : Obligations.CompletionCodesOfEachCommand := by
  unfold Obligations.CompletionCodesOfEachCommand
  intro i s t hwf hexec hd
  cases (effect_of_exec hexec).commandEnd hd with
  | ok herr hfstep => exact ⟨.inl herr, fun _ => hfstep, fun h => absurd (herr.symm.trans h) (by decide)⟩
  | error e hraised herr hfstep =>
    rw [herr, hfstep]
    exact ⟨.inr (hraised.code_cases hwf), ErrKind.failedStep_eq_zero, ErrKind.failedStep_range⟩

/-- Settles O49: the error's frame, and WIRE is SHOW's alone. -/
theorem errorsArePrecise : Obligations.ErrorsArePrecise := by
  unfold Obligations.ErrorsArePrecise
  intro i s t hexec hd herr
  have heffect := effect_of_exec hexec
  cases heffect.commandEnd hd with
  | ok hok => exact absurd hok herr
  | error _ _ _ _ hframe haf =>
    refine ⟨hframe.a0, hframe.a1, hframe.a2, hframe.r0, hframe.r1, hframe.grid, haf, fun hi => ?wire⟩
    obtain ⟨-, -, -, hwire, -⟩ := heffect.display_eq hi
    exact hwire

end Sys2Proof.Machine
end

section
/-! SUPPORT. Reset (`70_reset_and_hazards.md`): the step that takes a reset at either port (rules R190, R192), and the
STATUS word that the host reads after it (rule R191). -/

namespace Sys2Proof.Machine

variable {s : State} {rest : List TransportEvent} {restH : List HostEvent}

/-- The host reads 0 in STATUS where its three fields are 0 (`10_state.md` rule R24). -/
theorem hostRead_status_eq_zero (herr : s.err = 0) (hfstep : s.fstep = 0) (haf : s.af = 0) : hostRead 6 s = 0 := by
  apply BitVec.eq_of_toNat_eq
  rw [hostRead_status, statusWord_toNat, herr, hfstep, haf]
  rfl

/-- Settles O52: the reset state field by field, with what the host reads in its STATUS. -/
theorem stateAfterReset : Obligations.StateAfterReset := by
  unfold Obligations.StateAfterReset
  have hstatus : hostRead 6 State.reset = 0 := hostRead_status_eq_zero rfl rfl rfl
  exact ⟨rfl, rfl, rfl, rfl, rfl, rfl, rfl, rfl, rfl, rfl, reset_cell, hstatus, rfl⟩

/-- An idle block takes a reset at the host port, between two accesses (rule R190). -/
theorem step_idle_reset (hd : s.drv = .idle) (hh : s.host = .reset :: restH) :
    step s = .next { s with host := restH }.resetEvent :=
  step_hostEvent hd hh

/-- Whether a reset ends a SHOW (rule R192) or comes between host accesses (rule R190), the step is the reset event,
and takes nothing else from either queue. -/
theorem step_reset
    (h : ((∃ k, s.drv = .transferring k) ∧ s.transport = .reset :: rest ∧ s.host = restH) ∨
      (s.drv = .idle ∧ s.host = .reset :: restH ∧ s.transport = rest)) :
    step s = .next { s with transport := rest, host := restH }.resetEvent := by
  rcases h with ⟨⟨k, hd⟩, ht, rfl⟩ | ⟨hd, hh, rfl⟩
  · exact step_abort hd ht
  · exact step_idle_reset hd hh

/-- Settles O53: at either port the step is the reset event, and STATUS reads 0 as at reset. -/
theorem resetEndsATransfer : Obligations.ResetEndsATransfer := by
  unfold Obligations.ResetEndsATransfer
  intro s rest restH h
  refine ⟨_, step_reset h, ?_⟩
  have hstatus := hostRead_status_eq_zero (s := { s with transport := rest, host := restH }.resetEvent) rfl rfl rfl
  exact ⟨rfl, rfl, rfl, rfl, rfl, rfl, rfl, rfl, resetEvent_cell _, rfl, rfl, rfl, rfl, rfl, rfl, hstatus⟩

end Sys2Proof.Machine
end
